-- ==== Sys2Proof/Word.lean ====
section
/-! DEFINITION. The word types of the CV32E40P (spec/00_scope.md R15, R17). -/

namespace Sys2Proof

/-- XLEN = 32: the width of a register, an address and a 32-bit instruction (R15). -/
abbrev Word := BitVec 32

/-- The smallest addressable unit (20_memory R130). -/
abbrev Byte := BitVec 8

/-- A 5-bit register field, naming x0..x31 or f0..f31 (10_state R31). -/
abbrev Reg := BitVec 5

/-- A 3-bit compressed register field, naming register 8 + field (41_rv32c R261). -/
abbrev Reg3 := BitVec 3

end Sys2Proof
end

