-- ==== Sys2Proof/Config.lean ====
section
/-! DEFINITION. The implementation parameters and static pins of one CV32E40P (spec/00_scope.md R12 to R14), and the free
values of the specification: opaque constants, of which nothing can be proved. -/

namespace Sys2Proof

/-- A part of the address space in which the platform has memory (20_memory R132, 93 U2). -/
structure Region where
  /-- Its lowest address. -/
  base : Nat
  /-- How many bytes it has. -/
  size : Nat
  deriving DecidableEq, Repr

/-- The parameters of `cv32e40p_top` with their defaults and the static input pins, which have none: constants of a run (R12,
R13). Then the three parameters that the spec names for what the manual leaves open, with theirs (93 U1, U7, U11), and where the
platform has memory (20_memory R132). -/
structure Config where
  /-- `FPU`: the floating-point unit is present. -/
  fpu : Bool := false
  /-- `FPU_ADDMUL_LAT`: timing only (70 R925). -/
  fpuAddmulLat : Nat := 0
  /-- `FPU_OTHERS_LAT`: timing only (70 R925). -/
  fpuOthersLat : Nat := 0
  /-- `ZFINX`: floating-point operands live in the integer registers. -/
  zfinx : Bool := false
  /-- `COREV_PULP`: every Xcv instruction but `cv.elw`, and the custom CSRs. -/
  corevPulp : Bool := false
  /-- `COREV_CLUSTER`: `cv.elw`. -/
  corevCluster : Bool := false
  /-- `NUM_MHPMCOUNTERS`, 0 to 29. -/
  numMhpmcounters : Nat := 1
  /-- `boot_addr_i`. -/
  bootAddr : Word
  /-- `mtvec_addr_i`. -/
  mtvecAddr : Word
  /-- `dm_halt_addr_i`. -/
  dmHaltAddr : Word
  /-- `dm_exception_addr_i`. -/
  dmExceptionAddr : Word
  /-- `hart_id_i`. -/
  hartId : Word
  /-- `SPLIT_I_D_MEMORY` (U1): fetch reads a memory of its own. -/
  splitIDMemory : Bool := false
  /-- `UNSIGNED_SCI_SIGN_EXTENDS` (U11). -/
  unsignedSciSignExtends : Bool := false
  /-- `ELW_INTERRUPTIBLE` (U7). -/
  elwInterruptible : Bool := true
  /-- Where the platform has memory on the data interface, and on the fetch interface unless SPLIT_I_D_MEMORY: everywhere, unless
  said otherwise (DESIGN CHOICE, unsafe, notes/assumptions/4.md). -/
  dataMap : List Region := [{ base := 0, size := 2 ^ 32 }]
  /-- Where the platform has instruction memory, with SPLIT_I_D_MEMORY (DESIGN CHOICE, unsafe, notes/assumptions/4.md). -/
  codeMap : List Region := [{ base := 0, size := 2 ^ 32 }]
  deriving DecidableEq, Repr

/-- Does the region hold address `a`? -/
def Region.has (r : Region) (a : Word) : Bool := decide (r.base ≤ a.toNat) && decide (a.toNat < r.base + r.size)

namespace Config

/-- Does the platform have memory for a load from `a`? -/
def hasData (c : Config) (a : Word) : Bool := c.dataMap.any (fun r => r.has a)

/-- Does the platform have memory for a fetch from `a`? -/
def hasCode (c : Config) (a : Word) : Bool := if c.splitIDMemory then c.codeMap.any (fun r => r.has a) else c.hasData a

/-- The musts of R12 to R14 and U14: ZFINX needs FPU, at most 29 event counters, `boot_addr_i` halfword aligned, the two
debug addresses word aligned. -/
def legal (c : Config) : Bool :=
  (!c.zfinx || c.fpu) && decide (c.numMhpmcounters ≤ 29) && c.bootAddr.extractLsb' 0 1 == 0#1
    && c.dmHaltAddr.extractLsb' 0 2 == 0#2 && c.dmExceptionAddr.extractLsb' 0 2 == 0#2

/-- The core with the default parameters of R12, on pins that the model chose (R13 gives none; DESIGN CHOICE, unsafe,
notes/assumptions/1.md). -/
def defaults : Config where
  bootAddr := 0x00000080
  mtvecAddr := 0x00000000
  dmHaltAddr := 0x1A110800
  dmExceptionAddr := 0x1A110808
  hartId := 0

/-- The configuration of `State.reset`: that core with FPU, COREV_PULP and COREV_CLUSTER 1, where the defaults of R12 are 0, so
that every instruction of the table exists (DESIGN CHOICE, unsafe, notes/assumptions/1.md). -/
def atReset : Config := { Config.defaults with fpu := true, corevPulp := true, corevCluster := true }

/-- Free value (60_exceptions R870, U13): the cycles that pass in step `n`. -/
opaque freeCycles : Nat → BitVec 64

/-- Free value (60_exceptions R872, U13): how often a timing event of counter `x` occurs in step `n`. -/
opaque freeEvents : Nat → Nat → BitVec 64

/-- Free value (10_state R70, U4): what counter `x` holds in step `n` while its selector has several bits set. -/
opaque freeCounter : Nat → Nat → BitVec 64

/-- Free value (20_memory R151): which of the words held for word address `a` a fetch of step `n` uses, the old ones
first, any larger number meaning the word now in memory. -/
opaque freeStale : Nat → Nat → Nat

/-- Free value (20_memory R132, 93 U2): the byte that a load of step `n` gets from address `a`, where the platform has nothing. -/
opaque freeLoad : Nat → Nat → Byte

/-- Free value (20_memory R132, 93 U2): the byte that a fetch of step `n` gets from address `a`, where the platform has nothing. -/
opaque freeFetch : Nat → Nat → Byte

end Config

end Sys2Proof
end

