-- ==== Sys2Proof/Machine/State.lean ====
section
/-! DEFINITION. The state of the machine, why a step can stop, and the state after reset (spec/10_state.md).

Registers that the spec makes constants or functions of others (mip, misa, mtval, tselect, tdata3, tinfo, mcontext, scontext, the
identification registers, fcsr, the counter shadows) have no field: `csrRead` of Machine/Csr.lean computes them. -/

namespace Sys2Proof.Machine

/-- A single step of the debugger (60_exceptions R819 line 2, R855). -/
inductive StepPhase where
  /-- No single step in progress. -/
  | idle
  /-- `dret` was executed with `dcsr.step` = 1; the one instruction has not executed yet. -/
  | armed
  /-- The one instruction has executed: Debug Mode is to be entered with cause 4. -/
  | due
  deriving DecidableEq, Repr

/-- One hardware-loop register set (10_state R45 to R47). -/
structure HwLoop where
  /-- `lpstart`, bits 1:0 always 0. -/
  start : Word
  /-- `lpend`, bits 1:0 always 0. -/
  stop : Word
  /-- `lpcount`. -/
  count : Word
  deriving DecidableEq, Repr

/-- The operands of a `cv.elw` whose read is waiting for its response (44_xcv_mem_elw R400). -/
structure EventRead where
  /-- The register that the response goes to. -/
  rd : Reg
  /-- The base register. -/
  rs1 : Reg
  /-- The offset. -/
  imm : BitVec 12
  deriving DecidableEq, Repr

/-- Memory: (address, byte) pairs, addresses strictly rising, no entry equal to what an unlisted address reads as. -/
abbrev Memory := List Host.Cell

/-- The machine (10_state R30 to R110). -/
structure State where
  /-- The parameters and static pins: constants of a run (00_scope R12, R13). -/
  cfg : Config
  /-- x0..x31; x0 reads 0 (R30). -/
  x : Vector Word 32
  /-- f0..f31 (R36). -/
  f : Vector Word 32
  /-- The address of the instruction to execute, bit 0 always 0 (R33). -/
  pc : Word
  /-- Accrued floating-point exceptions NV DZ OF UF NX, also fcsr[4:0] (R41). -/
  fflags : BitVec 5
  /-- Dynamic rounding mode, also fcsr[7:5] (R42). -/
  frm : BitVec 3
  /-- R48, without SD, which is computed when it is read. -/
  mstatus : Word
  /-- R51. -/
  mie : Word
  /-- R52. -/
  mtvec : Word
  /-- R53. -/
  mscratch : Word
  /-- R54. -/
  mepc : Word
  /-- R55. -/
  mcause : Word
  /-- R59. -/
  tdata1 : Word
  /-- R60. -/
  tdata2 : Word
  /-- R65. -/
  dcsr : Word
  /-- R66. -/
  dpc : Word
  /-- R67. -/
  dscratch0 : Word
  /-- R67. -/
  dscratch1 : Word
  /-- lpstart0, lpend0, lpcount0 (R45 to R47). -/
  loop0 : HwLoop
  /-- lpstart1, lpend1, lpcount1 (R45 to R47). -/
  loop1 : HwLoop
  /-- R69. -/
  mcountinhibit : Word
  /-- mcycleh and mcycle (R71). -/
  mcycle : BitVec 64
  /-- minstreth and minstret (R72). -/
  minstret : BitVec 64
  /-- mhpmevent3..31, number n at index n - 3 (R70). -/
  hpmEvent : Vector (BitVec 16) 29
  /-- mhpmcounter3..31 with their upper halves, number n at index n - 3 (R73). -/
  hpmCounter : Vector (BitVec 64) 29
  /-- In Debug Mode (R105). -/
  debugMode : Bool
  /-- A debug request seen and not yet served (R105, 60_exceptions R851). -/
  debugPending : Bool
  /-- The single step in progress. -/
  stepPhase : StepPhase
  /-- Asleep, `core_sleep_o` (R106). -/
  sleeping : Bool
  /-- The `cv.elw` whose read is waiting for its response (44_xcv_mem_elw R400). -/
  elwWaiting : Option EventRead
  /-- The fetch-enable latch (R108). -/
  fetchEnabled : Bool
  /-- The 2^32-byte space (20_memory R130). -/
  mem : Memory
  /-- The instruction memory of a platform with SPLIT_I_D_MEMORY (93 U1). -/
  imem : Memory
  /-- Words (address, content) that the core may have fetched before a store changed them, the oldest first (R107). -/
  stale : List (Word × Word)
  /-- The input lines irq_i (60_exceptions R828). -/
  irq : Word
  /-- The input line debug_req_i. -/
  debugReq : Bool
  /-- The input line fetch_enable_i. -/
  fetchEnablePin : Bool
  /-- The input line pulp_clock_en_i. -/
  pulpClockEn : Bool
  /-- The Event Unit withholds the response to `cv.elw` (44_xcv_mem_elw R400). -/
  dataStall : Bool
  /-- The outputs irq_ack_o and irq_id_o of the last step (60_exceptions R833). -/
  irqAck : Option (BitVec 5)
  /-- The MODEL's own field: counts the steps and indexes the free values of Config (notes/assumptions/29.md). -/
  draws : Nat
  deriving DecidableEq, Repr

/-- Why the machine stops. The CV32E40P has no fault that stops it: its three exceptions are traps, which are next states
(60_exceptions R820, R826). So there is no constructor; nothing raises one, which is safe (notes/assumptions/25.md). -/
inductive Fault where
  deriving DecidableEq, Repr

/-- Why the model gives no next state. -/
inductive Refusal where
  /-- An instruction without a meaning in this model. Raised by `exec` only; safe. -/
  | notModelled (mnemonic : String)
  /-- A constraint of the hardware loops is violated and the behaviour is undefined (45_xcv_hwloop R412, R414; 93 U8). Raised by
  `step` after the instruction; safe: no statement holds of such a run. -/
  | hwLoopViolation
  /-- A CSR instruction writes an illegal combination to mcause, which is undefined behaviour (10_state R55; 93 U3). Raised by
  the CSR instructions; safe. -/
  | mcauseUndefined
  /-- The parameters or static pins violate a must of the manual (93 U14). Raised by `step`; safe. -/
  | illegalConfiguration
  /-- `pulp_clock_en_i` = 0 while the core is awake (93 U25). Raised by `step`; safe. -/
  | clockGatedAwake
  deriving DecidableEq, Repr

/-- What an instruction or a step answers. -/
abbrev Result := Host.Outcome State Fault Refusal

/-- Reset value of mcountinhibit, and the bits of it that can be written (10_state R69). -/
def countInhibitMask (c : Config) : Word := 0x5 ||| (((1 <<< c.numMhpmcounters) - 1) <<< 3)

/-- The state after reset of a core with parameters and pins `c` (10_state R110). -/
def State.resetWith (c : Config) : State where
  cfg := c
  x := Vector.replicate 32 0
  f := Vector.replicate 32 0
  pc := c.bootAddr
  fflags := 0
  frm := 0
  mstatus := 0x00001800
  mie := 0
  mtvec := c.mtvecAddr.extractLsb' 8 24 ++ 0x01#8
  mscratch := 0
  mepc := 0
  mcause := 0
  tdata1 := 0x28001040
  tdata2 := 0
  dcsr := 0x40000003
  dpc := 0
  dscratch0 := 0
  dscratch1 := 0
  loop0 := { start := 0, stop := 0, count := 0 }
  loop1 := { start := 0, stop := 0, count := 0 }
  mcountinhibit := countInhibitMask c
  mcycle := 0
  minstret := 0
  hpmEvent := Vector.replicate 29 0
  hpmCounter := Vector.replicate 29 0
  debugMode := false
  debugPending := false
  stepPhase := .idle
  sleeping := false
  elwWaiting := none
  fetchEnabled := false
  mem := []
  imem := []
  stale := []
  irq := 0
  debugReq := false
  fetchEnablePin := true
  pulpClockEn := true
  dataStall := false
  irqAck := none
  draws := 0

/-- The machine right after reset, with the configuration the model chose (notes/assumptions/1.md). -/
def State.reset : State := State.resetWith Config.atReset

end Sys2Proof.Machine
end

