-- ==== Sys2Proof/Machine/Ops.lean ====
section
/-! DEFINITION. The named operations over memory, registers and program counter: loads and stores, fetching, retiring an
instruction (with the hardware-loop rule and the counters), taking an exception or an interrupt, returning from one, entering and
leaving Debug Mode. Every meaning is written over these. -/

namespace Sys2Proof.Machine

/-! ### Memory (20_memory R130 to R138) -/

/-- What a byte that nothing has written reads as (DESIGN CHOICE, unsafe, notes/assumptions/4.md). -/
def Memory.blank : Byte := 0

/-- The byte at address `a`. -/
def Memory.read : Memory → Nat → Byte
  | [], _ => Memory.blank
  | (k, v) :: m, a => if a = k then v else Memory.read m a

/-- Memory with byte `b` at address `a`, in canonical form. -/
def Memory.write : Memory → Nat → Byte → Memory
  | [], a, b => if b = Memory.blank then [] else [(a, b)]
  | (k, v) :: m, a, b =>
    if a < k then (if b = Memory.blank then (k, v) :: m else (a, b) :: (k, v) :: m)
    else if a = k then (if b = Memory.blank then m else (a, b) :: m)
    else (k, v) :: Memory.write m a b

/-- Is every address of `m` at least `lo`, below 2^32 and strictly rising, and no byte the blank one? -/
def Memory.wfFrom : Nat → Memory → Bool
  | _, [] => true
  | lo, (k, v) :: m => decide (lo ≤ k) && decide (k < 2 ^ 32) && v != Memory.blank && Memory.wfFrom (k + 1) m

/-- The canonical form of a memory. -/
def Memory.wf (m : Memory) : Bool := Memory.wfFrom 0 m

/-- `MemRead(a, 1)` of a memory (R134); address arithmetic is modulo 2^32 (R138). -/
def Memory.byte (m : Memory) (a : Word) : Byte := m.read a.toNat

/-- `MemRead(a, 2)` (R134). -/
def Memory.half (m : Memory) (a : Word) : BitVec 16 := m.byte (a + 1) ++ m.byte a

/-- `MemRead(a, 4)` (R134). -/
def Memory.word (m : Memory) (a : Word) : Word := m.byte (a + 3) ++ m.byte (a + 2) ++ m.byte (a + 1) ++ m.byte a

/-- `MemWrite(a, 1, v)` (R134). -/
def Memory.setByte (m : Memory) (a : Word) (v : Byte) : Memory := m.write a.toNat v

/-- `MemWrite(a, 2, v)` (R134). -/
def Memory.setHalf (m : Memory) (a : Word) (v : BitVec 16) : Memory :=
  (m.setByte a (v.extractLsb' 0 8)).setByte (a + 1) (v.extractLsb' 8 8)

/-- `MemWrite(a, 4, v)` (R134). -/
def Memory.setWord (m : Memory) (a : Word) (v : Word) : Memory :=
  (((m.setByte a (v.extractLsb' 0 8)).setByte (a + 1) (v.extractLsb' 8 8)).setByte (a + 2)
    (v.extractLsb' 16 8)).setByte (a + 3) (v.extractLsb' 24 8)

/-! ### Addresses -/

/-- An instruction address: bit 0 is ignored (10_state R33). -/
def instrAddr (a : Word) : Word := a &&& 0xFFFFFFFE

/-- The word that holds address `a` (20_memory R139). -/
def wordAddr (a : Word) : Word := a &&& 0xFFFFFFFC

/-! ### Registers (10_state R30, R36) -/

/-- `X(r)`: x0 reads 0. -/
def State.reg (s : State) (r : Reg) : Word := if r = 0 then 0 else s.x[r.toFin]

/-- `X(r) ← v`: a write to x0 is discarded. -/
def State.setReg (s : State) (r : Reg) (v : Word) : State :=
  if r = 0 then s else { s with x := s.x.set r.toFin v }

/-- `F(r)`: with ZFINX the integer register of the same number (43 R320, R351). -/
def State.freg (s : State) (r : Reg) : Word := if s.cfg.zfinx then s.reg r else s.f[r.toFin]

/-- `F(r) ← v`. -/
def State.setFreg (s : State) (r : Reg) (v : Word) : State :=
  if s.cfg.zfinx then s.setReg r v else { s with f := s.f.set r.toFin v }

/-- The integer register that a 3-bit compressed field names (41_rv32c R261). -/
def fullReg (r : Reg3) : Reg := 1#2 ++ r

/-- `pc`-relative halfword offset of an instruction's offset field: its bits without the zero bit 0, sign-extended. -/
def offset {n : Nat} (imm : BitVec n) : Word := (imm ++ 0#1).signExtend 32

/-! ### Loads (20_memory R132, R134) -/

/-- The byte that a load gets from address `a`: a free value where the platform has nothing (R132, 93 U2). -/
def State.loadByte (s : State) (a : Word) : Byte :=
  if s.cfg.hasData a then s.mem.byte a else Config.freeLoad s.draws a.toNat

/-- The halfword that a load gets from `a`, at any alignment. -/
def State.loadHalf (s : State) (a : Word) : BitVec 16 := s.loadByte (a + 1) ++ s.loadByte a

/-- The word that a load gets from `a`, at any alignment. -/
def State.loadWord (s : State) (a : Word) : Word :=
  s.loadByte (a + 3) ++ s.loadByte (a + 2) ++ s.loadByte (a + 1) ++ s.loadByte a

/-! ### What the instruction bus gives (20_memory R132, R139) -/

/-- The memory that instruction fetch reads (93 U1). -/
def State.codeMem (s : State) : Memory := if s.cfg.splitIDMemory then s.imem else s.mem

/-- The byte that a fetch gets from address `a`: a free value where the platform has nothing (R132, 93 U2). -/
def State.codeByte (s : State) (a : Word) : Byte :=
  if s.cfg.hasCode a then s.codeMem.byte a else Config.freeFetch s.draws a.toNat

/-- The word that a fetch gets from word address `a` when it reads the bus now. -/
def State.codeWord (s : State) (a : Word) : Word :=
  s.codeByte (a + 3) ++ s.codeByte (a + 2) ++ s.codeByte (a + 1) ++ s.codeByte a

/-! ### Stores and what the prefetcher may still hold (20_memory R150, R151; notes/assumptions/11.md)

Bytes stored where the platform has nothing stay in the list and no load and no fetch reads them (notes/assumptions/4.md). -/

/-- May the word at word address `a` have been fetched already when the instruction at `pc` executes: the instruction's own
words, those of its successor, and `DEPTH` = 2 words ahead? A successor at the word of `pc` + 6 ends in the word 8 above. -/
def inFetchWindow (pc a : Word) : Bool := (a - wordAddr pc).ule 16

/-- Keep the content that the word of address `a` has on the instruction bus, if it may have been fetched. Before the first fetch
the prefetch buffer is empty (10_state R107, R108). R151 does not say what old word the prefetcher holds where the platform has no
memory: the model keeps free bytes there, those that the bus gives in this step (DESIGN CHOICE, notes/assumptions/11.md), and never
a byte of the list. -/
def State.keepOld (s : State) (a : Word) : State :=
  if s.fetchEnabled && inFetchWindow s.pc (wordAddr a) then
    { s with stale := s.stale ++ [(wordAddr a, s.codeWord (wordAddr a))] }
  else s

/-- What a store to data memory at `a` may leave old in the prefetcher. -/
def State.noteWord (s : State) (a : Word) : State := if s.cfg.splitIDMemory then s else s.keepOld a

/-- The same for the one or two words of `n` + 1 bytes at `a`. -/
def State.noteWords (s : State) (a n : Word) : State :=
  if wordAddr (a + n) = wordAddr a then s.noteWord a else (s.noteWord a).noteWord (a + n)

/-- A byte store of the hart. -/
def State.storeByte (s : State) (a : Word) (v : Byte) : State :=
  let t := s.noteWords a 0
  { t with mem := t.mem.setByte a v }

/-- A halfword store of the hart, at any alignment (R136). -/
def State.storeHalf (s : State) (a : Word) (v : BitVec 16) : State :=
  let t := s.noteWords a 1
  { t with mem := t.mem.setHalf a v }

/-- A word store of the hart, at any alignment (R136). -/
def State.storeWord (s : State) (a : Word) (v : Word) : State :=
  let t := s.noteWords a 3
  { t with mem := t.mem.setWord a v }

/-! ### Fetch (20_memory R139, R151) -/

/-- The old contents that the core may still hold for word address `a`, the oldest first. -/
def State.oldWords (s : State) (a : Word) : List Word :=
  (s.stale.filter (fun e => e.1 = a)).map (fun e => e.2)

/-- The word that a fetch from word address `a` gives: one of the old ones, or what the bus gives now: a free choice. -/
def State.fetchWord (s : State) (a : Word) : Word :=
  (s.oldWords a).getD (Config.freeStale s.draws a.toNat) (s.codeWord a)

/-- The 32 bits from `pc` on, out of one or two aligned words. -/
def State.fetch (s : State) : Word :=
  let w := s.fetchWord (wordAddr s.pc)
  if s.pc.getLsbD 1 then s.fetchWord (wordAddr s.pc + 4) |>.extractLsb' 0 16 |>.append (w.extractLsb' 16 16) else w

/-! ### The counters (60_exceptions R870 to R873) -/

/-- Is the counter of `mcountinhibit` bit `n` inhibited? -/
def State.inhibited (s : State) (n : Nat) : Bool := s.mcountinhibit.getLsbD n

/-- Are several bits of an event selector set (10_state R70; 93 U4)? -/
def manyEvents (sel : BitVec 16) : Bool := sel &&& (sel - 1) != 0

/-- Is `sel` one event that depends on pipeline or bus timing: 0, 2, 3, 4, 11 to 15 (60_exceptions R872)? -/
def timingEvent (sel : BitVec 16) : Bool := sel &&& 0xF81D != 0 && !manyEvents sel

/-- What the passing of time does to event counter `i` + 3 in a step: a free increment for a timing event, a free value for a
selector with several bits. -/
def tickCounter (s : State) (i : Nat) (c : BitVec 64) : BitVec 64 :=
  let sel := s.hpmEvent.toArray.getD i 0
  if s.cfg.numMhpmcounters ≤ i then c
  else if manyEvents sel then Config.freeCounter s.draws (i + 3)
  else if timingEvent sel && !s.inhibited (i + 3) then c + Config.freeEvents s.draws (i + 3)
  else c

/-- The passing of time in a step: mcycle and the timing events advance by free amounts (93 U13; notes/assumptions/9.md). -/
def State.tick (s : State) : State :=
  { s with
    draws := s.draws + 1
    mcycle := if s.inhibited 0 then s.mcycle else s.mcycle + Config.freeCycles s.draws
    hpmCounter := s.hpmCounter.mapIdx (fun i c => tickCounter s i c) }

/-- What retiring an instruction needs to know of it, beside its effect on the state. -/
structure Retired where
  /-- Its length in bytes, 2 or 4. -/
  len : Word := 4
  /-- The `pc` that it assigns, if it assigns one. -/
  target : Option Word := none
  /-- LD event. -/
  load : Bool := false
  /-- ST event. -/
  store : Bool := false
  /-- JUMP event. -/
  jump : Bool := false
  /-- BRANCH event. -/
  branch : Bool := false
  /-- It empties the prefetch buffer although it assigns no `pc` (fence.i). -/
  flush : Bool := false
  /-- Bit n is set when the instruction wrote the counter of `mcountinhibit` bit n. -/
  written : Word := 0
  deriving DecidableEq, Repr

/-- Is `sel` the one event of the retired instruction stream that this instruction is (60_exceptions R872)? A branch is taken
exactly when it assigns `pc`. -/
def countsEvent (r : Retired) (sel : BitVec 16) : Bool :=
  match sel with
  | 0x0002#16 => true
  | 0x0020#16 => r.load
  | 0x0040#16 => r.store
  | 0x0080#16 => r.jump
  | 0x0100#16 => r.branch
  | 0x0200#16 => r.branch && r.target.isSome
  | 0x0400#16 => r.len == 2
  | _ => false

/-- What retiring an instruction does to event counter `i` + 3: inhibit bit and selector are those before the instruction, and
a counter that it wrote is not counted (92 D17). -/
def retireCounter (s : State) (r : Retired) (i : Nat) (c : BitVec 64) : BitVec 64 :=
  if i < s.cfg.numMhpmcounters && !s.inhibited (i + 3) && !r.written.getLsbD (i + 3)
    && countsEvent r (s.hpmEvent.toArray.getD i 0) then c + 1 else c

/-- minstret after retiring an instruction (60_exceptions R871, 92 D17). -/
def retireInstret (s : State) (r : Retired) (c : BitVec 64) : BitVec 64 :=
  if s.inhibited 2 || r.written.getLsbD 2 then c else c + 1

/-! ### Retiring an instruction: the next pc, the hardware-loop rule, the counters -/

/-- Is the instruction at `pc` the last of the body of an active loop (45_xcv_hwloop R413)? -/
def HwLoop.ends (l : HwLoop) (pc : Word) : Bool := l.count != 0 && pc == l.stop - 4

/-- The loop's part of R413: `pc` and the new count, after the last instruction of its body. -/
def HwLoop.next (l : HwLoop) (pc len : Word) : Word := if l.count = 1 then pc + len else l.start

/-- The loop that redirects the instruction at `s.pc`, loop 0 first (R413). -/
def State.loopBack (s : State) : Option (BitVec 1) :=
  if !s.cfg.corevPulp then none
  else if s.loop0.ends s.pc then some 0
  else if s.loop1.ends s.pc then some 1
  else none

/-- The instruction described by `r`, begun in `s`, completes; `t` is `s` with its effect. It sets the next pc (10_state R34),
applies the hardware-loop rule with the loop registers of `s` (45_xcv_hwloop R413), empties the prefetch buffer when control
does not fall through (20_memory R151), and counts the instruction (60_exceptions R871, R872). -/
def State.retire (s : State) (r : Retired) (t : State) : State :=
  let u : State := { t with
    minstret := retireInstret s r t.minstret
    hpmCounter := t.hpmCounter.mapIdx (fun i c => retireCounter s r i c) }
  match r.target with
  | some p => { u with pc := instrAddr p, stale := [] }
  | none =>
    match s.loopBack with
    | some 0#1 =>
      { u with
        pc := s.loop0.next s.pc r.len
        loop0 := { u.loop0 with count := s.loop0.count - 1 }
        stale := if s.loop0.count = 1 && !r.flush then u.stale else [] }
    | some 1#1 =>
      { u with
        pc := s.loop1.next s.pc r.len
        loop1 := { u.loop1 with count := s.loop1.count - 1 }
        stale := if s.loop1.count = 1 && !r.flush then u.stale else [] }
    | none => { u with pc := s.pc + r.len, stale := if r.flush then [] else u.stale }

/-! ### Exceptions and interrupts (60_exceptions R820 to R836) -/

/-- `mstatus.MIE`. -/
def statusMie (m : Word) : Bool := m.getLsbD 3

/-- mstatus on trap entry: MPIE ← MIE, MIE ← 0 (R826). -/
def statusOnTrap (m : Word) : Word := (m &&& 0xFFFFFF77) ||| ((m &&& 0x8) <<< 4)

/-- mstatus on `mret`: MIE ← MPIE, MPIE ← 1 (42 R308; the second a choice of the spec, 92 D12; notes/assumptions/34.md). -/
def statusOnMret (m : Word) : Word := (m &&& 0xFFFFFF77) ||| ((m &&& 0x80) >>> 4) ||| 0x80

/-- The base address of the vector table (R827). -/
def trapBase (mtvec : Word) : Word := mtvec &&& 0xFFFFFF00

/-- Trap entry (R826): TAKING AN EXCEPTION or an interrupt, outside Debug Mode. `epc` is the address saved, `cause` goes to
mcause, `target` is where the pc goes. -/
def State.enterTrap (s : State) (epc cause target : Word) : State :=
  { s with
    mepc := instrAddr epc
    mcause := cause
    mstatus := statusOnTrap s.mstatus
    pc := target
    stale := [] }

/-- The exception with `code` at the instruction of `s`: trap entry (R826, R827), and in Debug Mode a jump to
`dm_exception_addr_i` that writes no CSR (R853). The instruction does not retire. -/
def State.raise (s : State) (code : Word) : State :=
  if s.debugMode then { s with pc := s.cfg.dmExceptionAddr, stale := [] }
  else s.enterTrap s.pc code (trapBase s.mtvec)

/-- The instruction of `s` is illegal: exception 2 (R822). -/
def illegal (s : State) : Result := .next (s.raise 2)

/-- The usable interrupt lines: mip (10_state R57, 60_exceptions R828). -/
def State.mip (s : State) : Word := s.irq &&& 0xFFFF0888

/-- The interrupt ids from the highest priority to the lowest (R829). -/
def interruptOrder : List (BitVec 5) :=
  [31, 30, 29, 28, 27, 26, 25, 24, 23, 22, 21, 20, 19, 18, 17, 16, 11, 3, 7]

/-- `select(m)` (R829). -/
def selectInterrupt (m : Word) : Option (BitVec 5) := interruptOrder.find? (fun i => m.getLsbD i.toNat)

/-- The interrupt to be taken at this boundary (R831): not in Debug Mode, enabled, and during a single step only with
dcsr.stepie. -/
def State.interruptToTake (s : State) : Option (BitVec 5) :=
  if !s.debugMode && statusMie s.mstatus && (s.stepPhase != .armed || s.dcsr.getLsbD 11) then
    selectInterrupt (s.mip &&& s.mie)
  else none

/-- Where an interrupt goes: the base in direct mode, base + 4 × id in vectored mode (R827). -/
def interruptTarget (mtvec : Word) (id : BitVec 5) : Word :=
  if mtvec.getLsbD 0 then trapBase mtvec + (id.setWidth 32 <<< 2) else trapBase mtvec

/-- Taking interrupt `id` instead of the instruction at `pc` (R831, R833). -/
def State.takeInterrupt (s : State) (id : BitVec 5) : State :=
  { s.enterTrap s.pc (0x80000000 ||| id.setWidth 32) (interruptTarget s.mtvec id) with irqAck := some id }

/-! ### Debug Mode (60_exceptions R850 to R856) -/

/-- A debug request is pending: the line, or the request that the core has latched (R851). -/
def State.debugRequested (s : State) : Bool := s.debugReq || s.debugPending

/-- The trigger matches `pc` (R852). -/
def State.triggerAt (s : State) (pc : Word) : Bool := !s.debugMode && s.tdata1.getLsbD 2 && pc == s.tdata2

/-- dcsr with its cause field set (R850). -/
def dcsrWithCause (d : Word) (c : BitVec 3) : Word := (d &&& 0xFFFFFE3F) ||| (c.setWidth 32 <<< 6)

/-- Entering Debug Mode for reason `c` with `pc` the instruction not executed (R850). -/
def State.enterDebug (s : State) (c : BitVec 3) : State :=
  { s with
    debugMode := true
    debugPending := false
    stepPhase := .idle
    dpc := instrAddr s.pc
    dcsr := dcsrWithCause s.dcsr c
    pc := s.cfg.dmHaltAddr
    stale := [] }

/-- An environment call (R824, 40_rv32im R239). -/
def environmentCall (s : State) : Result := .next (s.raise 11)

/-- A breakpoint instruction (R854): Debug Mode entry with dcsr.ebreakm, a jump to `dm_halt_addr_i` in Debug Mode, else
exception 3. It does not retire. -/
def breakpoint (s : State) : Result :=
  if s.debugMode then .next { s with pc := s.cfg.dmHaltAddr, stale := [] }
  else if s.dcsr.getLsbD 15 then .next (s.enterDebug 1)
  else .next (s.raise 3)

/-- RETURN FROM AN EXCEPTION (R834, 42 R308); in Debug Mode a jump to `dm_exception_addr_i` that changes no CSR (R853). -/
def machineReturn (s : State) : Result :=
  if s.debugMode then .next { s with pc := s.cfg.dmExceptionAddr, stale := [] }
  else .next (s.retire { target := some s.mepc } { s with mstatus := statusOnMret s.mstatus })

/-- Leaving Debug Mode (R855, 42 R309): a request line still high is pending again (R851), and with dcsr.step a single step begins.
Illegal outside Debug Mode. -/
def debugReturn (s : State) : Result :=
  if s.debugMode then
    .next (s.retire { target := some s.dpc }
      { s with
        debugMode := false
        debugPending := s.debugReq
        stepPhase := if s.dcsr.getLsbD 2 then .armed else .idle })
  else illegal s

/-! ### Forms of completion that many instructions share -/

/-- An instruction of `len` bytes writes `v` to integer register `rd` and completes. -/
def writeBack (len : Word) (rd : Reg) (v : Word) (s : State) : Result :=
  .next (s.retire { len := len } (s.setReg rd v))

/-- A jump (40_rv32im R203, R204): `rd` receives the address after the instruction, the pc the target. -/
def jumpLink (len : Word) (rd : Reg) (target : Word) (s : State) : Result :=
  .next (s.retire { len := len, target := some target, jump := true } (s.setReg rd (s.pc + len)))

/-- A conditional branch with byte offset `off` (40_rv32im section 2). -/
def branchIf (len : Word) (taken : Bool) (off : Word) (s : State) : Result :=
  .next (s.retire { len := len, branch := true, target := if taken then some (s.pc + off) else none } s)

/-- A load of `v` into integer register `rd`. -/
def loadTo (len : Word) (rd : Reg) (v : Word) (s : State) : Result :=
  .next (s.retire { len := len, load := true } (s.setReg rd v))

/-- A store whose effect gives `t`. -/
def storeDone (len : Word) (t : State) (s : State) : Result :=
  .next (s.retire { len := len, store := true } t)

end Sys2Proof.Machine
end

