-- ==== Sys2Proof/Machine/Flags.lean ====
section
/-! DEFINITION. The only flags of the machine, the accrued floating-point exceptions (10_state R37, R41), the floating-point
state field of mstatus, the rounding mode, and the checks that come before a floating-point instruction (43 R322 to R324). -/

namespace Sys2Proof.Machine

/-- Invalid operation. -/
def flagNV : BitVec 5 := 0b10000
/-- Division by zero. -/
def flagDZ : BitVec 5 := 0b01000
/-- Overflow. -/
def flagOF : BitVec 5 := 0b00100
/-- Underflow. -/
def flagUF : BitVec 5 := 0b00010
/-- Inexact. -/
def flagNX : BitVec 5 := 0b00001

/-- `NX` exactly when a result is inexact. -/
def inexactFlag (b : Bool) : BitVec 5 := if b then flagNX else 0

/-- The rounding modes (43 R323). -/
inductive Rounding where
  /-- To nearest, ties to even. -/
  | rne
  /-- Toward zero. -/
  | rtz
  /-- Down. -/
  | rdn
  /-- Up. -/
  | rup
  /-- To nearest, ties to the larger magnitude. -/
  | rmm
  deriving DecidableEq, Repr

/-- The mode that a three-bit field names, if it names one (10_state R42). -/
def roundingOf (m : BitVec 3) : Option Rounding :=
  match m with
  | 0#3 => some .rne
  | 1#3 => some .rtz
  | 2#3 => some .rdn
  | 3#3 => some .rup
  | 4#3 => some .rmm
  | _ => none

/-- The rounding mode of an instruction with field `rm`: 111 means `frm` (R323). `none` makes the instruction illegal. -/
def State.rounding (s : State) (rm : BitVec 3) : Option Rounding :=
  if rm = 7 then roundingOf s.frm else roundingOf rm

/-- `mstatus.FS` (10_state R48). -/
def statusFs (m : Word) : BitVec 2 := m.extractLsb' 13 2

/-- Does mstatus have an FS field: FPU = 1 and ZFINX = 0 (10_state R48)? -/
def hasFs (c : Config) : Bool := c.fpu && !c.zfinx

/-- May the floating-point state be used (10_state R44, 43 R324)? -/
def State.fpUsable (s : State) : Bool := s.cfg.fpu && (s.cfg.zfinx || statusFs s.mstatus != 0)

/-- `mstatus.FS` ← Dirty, where there is an FS field (10_state R44, R49). -/
def State.markDirty (s : State) : State :=
  if hasFs s.cfg then { s with mstatus := s.mstatus ||| 0x6000 } else s

/-- OR raised flags into fflags (43 R322). -/
def State.accrue (s : State) (fl : BitVec 5) : State := { s with fflags := s.fflags ||| fl }

end Sys2Proof.Machine
end

