-- ==== Sys2Proof/Machine/Csr.lean ====
section
/-! DEFINITION. The control and status registers: what a read gives, what a write stores, and the access checks (10_state R38 to
R103). -/

namespace Sys2Proof.Machine

/-- The value of the 64-bit counter number `k` of the counter banks; number 1 is not implemented (10_state R40, R71 to R74, R77). -/
def State.counter (s : State) (k : BitVec 5) : Option (BitVec 64) :=
  if k = 0 then some s.mcycle
  else if k = 1 then none
  else if k = 2 then some s.minstret
  else some (s.hpmCounter.toArray.getD (k.toNat - 3) 0)

/-- Store into counter number `k`; a counter that is not implemented keeps 0 (R73). -/
def State.setCounter (s : State) (k : BitVec 5) (v : BitVec 64) : State :=
  if k = 0 then { s with mcycle := v }
  else if k = 2 then { s with minstret := v }
  else if k.toNat - 3 < s.cfg.numMhpmcounters then
    { s with hpmCounter := s.hpmCounter.mapIdx (fun i c => if i = k.toNat - 3 then v else c) }
  else s

/-- mhpmevent number `k`, 3 to 31 (R70). -/
def State.eventSelector (s : State) (k : BitVec 5) : Word :=
  (s.hpmEvent.toArray.getD (k.toNat - 3) 0).setWidth 32

/-- Store into mhpmevent number `k`: 16 bits, and nothing where the counter is not implemented (R70). -/
def State.setEventSelector (s : State) (k : BitVec 5) (v : Word) : State :=
  if k.toNat - 3 < s.cfg.numMhpmcounters then
    { s with hpmEvent := s.hpmEvent.mapIdx (fun i c => if i = k.toNat - 3 then v.setWidth 16 else c) }
  else s

/-- misa (R50). -/
def misaValue (c : Config) : Word :=
  0x40001104 ||| (if hasFs c then 0x20 else 0) ||| (if c.corevPulp || c.corevCluster then 0x800000 else 0)

/-- mimpid (R98). -/
def mimpidValue (c : Config) : Word := if c.fpu || c.corevPulp || c.corevCluster then 1 else 0

/-- The value read from mstatus: SD is set exactly when FS is Dirty (R48). -/
def mstatusRead (m : Word) : Word := if statusFs m = 3 then m ||| 0x80000000 else m

/-- A value that exists only under a condition. -/
def onlyIf (p : Bool) (v : Word) : Option Word := if p then some v else none

/-- The value of a CSR outside the counter banks, if it is implemented and accessible (R38 steps 1, 2, 5; R40). -/
def State.csrReadPlain (s : State) (a : BitVec 12) : Option Word :=
  match a with
  | 0x001#12 => onlyIf s.fpUsable (s.fflags.setWidth 32)
  | 0x002#12 => onlyIf s.fpUsable (s.frm.setWidth 32)
  | 0x003#12 => onlyIf s.fpUsable ((s.frm ++ s.fflags).setWidth 32)
  | 0x300#12 => some (mstatusRead s.mstatus)
  | 0x301#12 => some (misaValue s.cfg)
  | 0x304#12 => some s.mie
  | 0x305#12 => some s.mtvec
  | 0x340#12 => some s.mscratch
  | 0x341#12 => some s.mepc
  | 0x342#12 => some s.mcause
  | 0x343#12 => some 0
  | 0x344#12 => some s.mip
  | 0x7A0#12 => some 0
  | 0x7A1#12 => some s.tdata1
  | 0x7A2#12 => some s.tdata2
  | 0x7A3#12 => some 0
  | 0x7A4#12 => some 4
  | 0x7A8#12 => some 0
  | 0x7AA#12 => some 0
  | 0x7B0#12 => onlyIf s.debugMode s.dcsr
  | 0x7B1#12 => onlyIf s.debugMode s.dpc
  | 0x7B2#12 => onlyIf s.debugMode s.dscratch0
  | 0x7B3#12 => onlyIf s.debugMode s.dscratch1
  | 0xCC0#12 => onlyIf s.cfg.corevPulp s.loop0.start
  | 0xCC1#12 => onlyIf s.cfg.corevPulp s.loop0.stop
  | 0xCC2#12 => onlyIf s.cfg.corevPulp s.loop0.count
  | 0xCC4#12 => onlyIf s.cfg.corevPulp s.loop1.start
  | 0xCC5#12 => onlyIf s.cfg.corevPulp s.loop1.stop
  | 0xCC6#12 => onlyIf s.cfg.corevPulp s.loop1.count
  | 0xCD0#12 => onlyIf s.cfg.corevPulp s.cfg.hartId
  | 0xCD1#12 => onlyIf s.cfg.corevPulp 3
  | 0xCD2#12 =>
    onlyIf (s.cfg.corevPulp && (!s.cfg.fpu || s.cfg.zfinx)) (if s.cfg.fpu && s.cfg.zfinx then 1 else 0)
  | 0xF11#12 => some 0x602
  | 0xF12#12 => some 4
  | 0xF13#12 => some (mimpidValue s.cfg)
  | 0xF14#12 => some s.cfg.hartId
  | _ => none

/-- The value of CSR `a`, `none` when an access is illegal (R38 steps 1, 2, 5). The counter banks are told by bits 11:5:
0xB00 and 0xC00 the low halves, 0xB80 and 0xC80 the high halves, 0x320 mcountinhibit and the selectors. -/
def State.csrRead (s : State) (a : BitVec 12) : Option Word :=
  let k := a.extractLsb' 0 5
  match a.extractLsb' 5 7 with
  | 0x58#7 => (s.counter k).map (·.extractLsb' 0 32)
  | 0x60#7 => (s.counter k).map (·.extractLsb' 0 32)
  | 0x5C#7 => (s.counter k).map (·.extractLsb' 32 32)
  | 0x64#7 => (s.counter k).map (·.extractLsb' 32 32)
  | 0x19#7 => if k = 0 then some s.mcountinhibit else if k.ult 3 then none else some (s.eventSelector k)
  | _ => s.csrReadPlain a

/-- Is CSR `a` read-only as a whole: `URO` or `MRO` in the map (R38 step 4; R62 for tinfo)? -/
def csrReadOnly (a : BitVec 12) : Bool := a.extractLsb' 10 2 == 3#2 || a == 0x7A4#12

/-- The writable bits of mstatus (R48). -/
def mstatusMask (c : Config) : Word := if hasFs c then 0x6088 else 0x88

/-- Is a value written to mcause a legal combination (R55)? Bit 31 is the interrupt bit, bits 4:0 the code. -/
def mcauseLegal (v : Word) : Bool :=
  let code := v.extractLsb' 0 5
  if v.getLsbD 31 then code == 3 || code == 7 || code == 11 || code.getLsbD 4
  else code == 0 || code == 2 || code == 3 || code == 11

/-- A write to a CSR outside the counter banks: each stores the writable bits of its rule; writes to the others are ignored
(R39). -/
def State.csrWritePlain (s : State) (a : BitVec 12) (v : Word) : Result :=
  match a with
  | 0x001#12 => .next ({ s with fflags := v.extractLsb' 0 5 }.markDirty)
  | 0x002#12 => .next ({ s with frm := v.extractLsb' 0 3 }.markDirty)
  | 0x003#12 => .next ({ s with fflags := v.extractLsb' 0 5, frm := v.extractLsb' 5 3 }.markDirty)
  | 0x300#12 => .next { s with mstatus := 0x1800 ||| (v &&& mstatusMask s.cfg) }
  | 0x304#12 => .next { s with mie := v &&& 0xFFFF0888 }
  | 0x305#12 => .next { s with mtvec := v &&& 0xFFFFFF01 }
  | 0x340#12 => .next { s with mscratch := v }
  | 0x341#12 => .next { s with mepc := instrAddr v }
  | 0x342#12 => if mcauseLegal v then .next { s with mcause := v &&& 0x8000001F } else .refused .mcauseUndefined
  | 0x7A1#12 => .next (if s.debugMode then { s with tdata1 := 0x28001040 ||| (v &&& 0x4) } else s)
  | 0x7A2#12 => .next (if s.debugMode then { s with tdata2 := v } else s)
  | 0x7B0#12 => .next { s with dcsr := (s.dcsr &&& 0xFFFF77FB) ||| (v &&& 0x8804) }
  | 0x7B1#12 => .next { s with dpc := instrAddr v }
  | 0x7B2#12 => .next { s with dscratch0 := v }
  | 0x7B3#12 => .next { s with dscratch1 := v }
  | _ => .next s

/-- A write of `v` to CSR `a` that the access checks allow. -/
def State.csrWrite (s : State) (a : BitVec 12) (v : Word) : Result :=
  let k := a.extractLsb' 0 5
  match a.extractLsb' 5 7 with
  | 0x58#7 => .next (s.setCounter k (((s.counter k).getD 0).extractLsb' 32 32 ++ v))
  | 0x5C#7 => .next (s.setCounter k (v ++ ((s.counter k).getD 0).extractLsb' 0 32))
  | 0x19#7 =>
    .next (if k = 0 then { s with mcountinhibit := v &&& countInhibitMask s.cfg } else s.setEventSelector k v)
  | _ => s.csrWritePlain a v

/-- The counters that a write to CSR `a` writes, by their number in mcountinhibit (92 D17). -/
def countersWritten (a : BitVec 12) : Word :=
  if a.extractLsb' 5 7 == 0x58#7 || a.extractLsb' 5 7 == 0x5C#7 then 1 <<< (a.extractLsb' 0 5).toNat else 0

/-- The common rule of the six CSR instructions (42 R301): the access checks, the old value to `rd`, and where the instruction's
form writes, `new` of the old value to the CSR. -/
def csrAccess (rd : Reg) (a : BitVec 12) (writes : Bool) (new : Word → Word) (s : State) : Result :=
  match s.csrRead a with
  | none => illegal s
  | some old =>
    if writes then
      if csrReadOnly a then illegal s
      else
        match s.csrWrite a (new old) with
        | .next t => .next (s.retire { written := countersWritten a } (t.setReg rd old))
        | .fault r => .fault r
        | .refused r => .refused r
    else .next (s.retire {} (s.setReg rd old))

end Sys2Proof.Machine
end

