-- ==== Sys2Proof/Machine/Operands.lean ====
section
/-! DEFINITION. Operand forms: effective addresses, bit fields, multiplier operands, and the vectors and second operands of the
SIMD instructions (40_rv32im section 3; 44 R371; 46 R440; 47 R510; 48 R540 to R543; 49 R660 to R662). -/

namespace Sys2Proof.Machine

/-! ### Addresses and immediates -/

/-- A 12-bit immediate, sign-extended. -/
def sext12 (imm : BitVec 12) : Word := imm.signExtend 32

/-- Base register plus signed 12-bit offset. -/
def State.addr (s : State) (rs1 : Reg) (imm : BitVec 12) : Word := s.reg rs1 + sext12 imm

/-- Base register plus offset register (44 R382). -/
def State.addrReg (s : State) (rs1 rs2 : Reg) : Word := s.reg rs1 + s.reg rs2

/-- Base register plus a zero-extended compressed offset counted in words (41_rv32c R261). -/
def State.addrWords {n : Nat} (s : State) (rs1 : Reg) (imm : BitVec n) : Word := s.reg rs1 + ((imm ++ 0#2).setWidth 32)

/-- The amount of a shift by a register: bits 4:0 (40_rv32im R230). -/
def shiftAmount (b : Word) : Nat := (b.extractLsb' 0 5).toNat

/-- 1 when `p` holds, else 0. -/
def boolWord (p : Bool) : Word := if p then 1 else 0

/-! ### Bit fields and the rounding constant of the Xcv ALU (46 R440) -/

/-- The width of a field of width-minus-one `w` at position `p`, cut off at bit 31. -/
def fieldWidth (p w : Nat) : Nat := min (w + p) 31 - p + 1

/-- `mask(p, w)`. -/
def fieldMask (p w : Nat) : Word := ((1 <<< fieldWidth p w) - 1) <<< p

/-- The field of `a`, zero-extended. -/
def fieldZext (a : Word) (p w : Nat) : Word := (a >>> p) &&& ((1 <<< fieldWidth p w) - 1)

/-- The field of `a`, sign-extended over its most significant bit. -/
def fieldSext (a : Word) (p w : Nat) : Word :=
  ((a >>> p) <<< (32 - fieldWidth p w)).sshiftRight (32 - fieldWidth p w)

/-- `d` with the field replaced by the low bits of `a`. -/
def fieldInsert (d a : Word) (p w : Nat) : Word := (d &&& ~~~ fieldMask p w) ||| ((a <<< p) &&& fieldMask p w)

/-- The position that a register form of a bit-field instruction takes from `rs2`: bits 4:0. -/
def fieldPos (b : Word) : Nat := (b.extractLsb' 0 5).toNat

/-- Its width minus one: bits 9:5. -/
def fieldLen (b : Word) : Nat := (b.extractLsb' 5 5).toNat

/-- `r(k)` = 2^(k-1), and 0 for `k` = 0 (47_xcv_mac R510). It is added modulo 2^32 (92 D8, notes/assumptions/35.md). -/
def roundConst (k : Nat) : Word := if k = 0 then 0 else 1 <<< (k - 1)

/-! ### Halfwords and bytes -/

/-- `v[15:0]`. -/
def loHalf (v : Word) : BitVec 16 := v.extractLsb' 0 16

/-- `v[31:16]`. -/
def hiHalf (v : Word) : BitVec 16 := v.extractLsb' 16 16

/-- Byte `i` of `v`. -/
def byteOf (v : Word) (i : Nat) : Byte := v.extractLsb' (8 * i) 8

/-- The halfword of `v` that a selector bit names (49 R662). -/
def halfSel (v : Word) (k : BitVec 1) : BitVec 16 := if k = 1 then hiHalf v else loHalf v

/-- The byte of `v` that two selector bits name (49 R662). -/
def byteSel (v : Word) (k : BitVec 2) : Byte := byteOf v k.toNat

/-! ### The 16-bit multiplier operands (47 R510) -/

/-- Unsigned product of two halfwords. -/
def mulHalfU (x y : BitVec 16) : Word := x.setWidth 32 * y.setWidth 32

/-- Signed product of two halfwords. -/
def mulHalfS (x y : BitVec 16) : Word := x.signExtend 32 * y.signExtend 32

/-! ### SIMD vectors (48 R540) and second operands (48 R541) -/

/-- A halfword vector, `hi` element 1 and `lo` element 0. -/
def packH (hi lo : BitVec 16) : Word := hi ++ lo

/-- A byte vector, element 3 first. -/
def packB (b3 b2 b1 b0 : Byte) : Word := b3 ++ b2 ++ b1 ++ b0

/-- Apply `f` to each pair of halfword elements. -/
def zipH (f : BitVec 16 → BitVec 16 → BitVec 16) (a b : Word) : Word :=
  packH (f (hiHalf a) (hiHalf b)) (f (loHalf a) (loHalf b))

/-- Apply `f` to each pair of byte elements. -/
def zipB (f : Byte → Byte → Byte) (a b : Word) : Word :=
  packB (f (byteOf a 3) (byteOf b 3)) (f (byteOf a 2) (byteOf b 2)) (f (byteOf a 1) (byteOf b 1))
    (f (byteOf a 0) (byteOf b 0))

/-- A halfword replicated: the `.sc.h` and `.sci.h` second operand. -/
def replH (x : BitVec 16) : Word := packH x x

/-- A byte replicated: the `.sc.b` and `.sci.b` second operand. -/
def replB (x : Byte) : Word := packB x x x x

/-- `.sc.h`: the least significant halfword of `rs2`. -/
def scH (b : Word) : Word := replH (loHalf b)

/-- `.sc.b`: the least significant byte of `rs2`. -/
def scB (b : Word) : Word := replB (byteOf b 0)

/-- `.sci.h`, sign-extended (R542). -/
def sciH (imm6 : BitVec 6) : Word := replH (imm6.signExtend 16)

/-- `.sci.b`, sign-extended. -/
def sciB (imm6 : BitVec 6) : Word := replB (imm6.signExtend 8)

/-- `.sci.h`, zero-extended (R542). -/
def sciuH (imm6 : BitVec 6) : Word := replH (imm6.setWidth 16)

/-- `.sci.b`, zero-extended. -/
def sciuB (imm6 : BitVec 6) : Word := replB (imm6.setWidth 8)

/-- `.sci.h` of the unsigned dot products and comparisons: zero-extended, or sign-extended where the parameter says so
(49 R660, 93 U11). -/
def sciDH (c : Config) (imm6 : BitVec 6) : Word := if c.unsignedSciSignExtends then sciH imm6 else sciuH imm6

/-- The same for `.sci.b`. -/
def sciDB (c : Config) (imm6 : BitVec 6) : Word := if c.unsignedSciSignExtends then sciB imm6 else sciuB imm6

end Sys2Proof.Machine
end

