-- ==== Sys2Proof/Machine/Float.lean ====
section
/-! DEFINITION. IEEE 754 binary32 arithmetic as the RISC-V F extension profiles it (43 R320 to R323): exact results over natural
numbers and integers, then one rounding. A result is the 32-bit pattern with the flags it raises. -/

namespace Sys2Proof.Machine

/-- A floating-point result and its flags. -/
abbrev FpResult := Word × BitVec 5

/-- The canonical NaN (R321). -/
def canonicalNaN : Word := 0x7FC00000

/-! ### Reading a pattern (R320) -/

/-- The sign bit. -/
def fSign (w : Word) : Bool := w.getLsbD 31

/-- The exponent field. -/
def fExp (w : Word) : Nat := (w.extractLsb' 23 8).toNat

/-- The fraction field. -/
def fFrac (w : Word) : Nat := (w.extractLsb' 0 23).toNat

def isNaN (w : Word) : Bool := fExp w == 255 && fFrac w != 0

/-- Signalling: a NaN with bit 22 clear. -/
def isSNaN (w : Word) : Bool := isNaN w && !w.getLsbD 22

def isInf (w : Word) : Bool := fExp w == 255 && fFrac w == 0

def isZero (w : Word) : Bool := fExp w == 0 && fFrac w == 0

/-- A finite pattern has magnitude `fMant w` × 2 ^ `fPow w`: the significand as an integer. -/
def fMant (w : Word) : Nat := if fExp w = 0 then fFrac w else fFrac w + 2 ^ 23

/-- The power of two that goes with `fMant`. -/
def fPow (w : Word) : Int := if fExp w = 0 then -149 else (fExp w : Int) - 150

/-- A finite pattern as an integer multiple of 2 ^ `e`, for `e` at most `fPow w`. -/
def signedAt (neg : Bool) (m : Nat) (p e : Int) : Int :=
  let v : Int := ((m <<< (p - e).toNat : Nat) : Int)
  if neg then -v else v

/-- The pattern with a sign and 31 magnitude bits. -/
def withSign (neg : Bool) (bits : Nat) : Word := (if neg then 1#1 else 0#1) ++ BitVec.ofNat 31 bits

def infinity (neg : Bool) : Word := withSign neg 0x7F800000

def zero (neg : Bool) : Word := withSign neg 0

/-! ### Rounding (R322, R323) -/

/-- Is a magnitude `q` + `r` / 2 ^ `d`, with `r` < 2 ^ `d`, rounded to `q` + 1? -/
def roundsUp (rm : Rounding) (neg : Bool) (q r d : Nat) : Bool :=
  match rm with
  | .rne => 2 * r > 2 ^ d || (2 * r == 2 ^ d && q % 2 == 1)
  | .rtz => false
  | .rdn => neg && r != 0
  | .rup => !neg && r != 0
  | .rmm => r != 0 && 2 * r ≥ 2 ^ d

/-- `m` / 2 ^ `d` rounded to an integer, and whether it is inexact. -/
def roundShift (rm : Rounding) (neg : Bool) (m d : Nat) : Nat × Bool :=
  let q := m >>> d
  let r := m % 2 ^ d
  (if roundsUp rm neg q r d then q + 1 else q, r != 0)

/-- `m` × 2 ^ `e` as a multiple of 2 ^ `q`, rounded, and whether it is inexact. -/
def roundAt (rm : Rounding) (neg : Bool) (m : Nat) (e q : Int) : Nat × Bool :=
  if q ≤ e then (m <<< (e - q).toNat, false) else roundShift rm neg m (q - e).toNat

/-- The result of an overflow: infinity, or the largest finite number where the mode rounds toward zero. -/
def overflowResult (rm : Rounding) (neg : Bool) : Word :=
  match rm with
  | .rne => infinity neg
  | .rmm => infinity neg
  | .rtz => withSign neg 0x7F7FFFFF
  | .rdn => if neg then infinity neg else withSign neg 0x7F7FFFFF
  | .rup => if neg then withSign neg 0x7F7FFFFF else infinity neg

/-- Is the value `m` × 2 ^ `e`, of exponent `top`, below 2 ^ -126 after rounding to 24 bits with unbounded exponent? -/
def tinyAfterRounding (rm : Rounding) (neg : Bool) (m : Nat) (e top : Int) : Bool :=
  if top ≥ -126 then false
  else if top = -127 then (roundAt rm neg m e (top - 23)).1 != 2 ^ 24
  else true

/-- The number ± `m` × 2 ^ `e`, `m` ≠ 0, rounded to binary32. Overflow raises OF and NX; underflow is raised when the result is
tiny after rounding and inexact (R322). -/
def roundF32 (rm : Rounding) (neg : Bool) (m : Nat) (e : Int) : FpResult :=
  let top : Int := (Nat.log2 m : Int) + e
  let q : Int := max (top - 23) (-149)
  let sig := (roundAt rm neg m e q).1
  let inexact := (roundAt rm neg m e q).2
  let bits := (q + 149).toNat * 2 ^ 23 + sig
  if bits ≥ 0x7F800000 then (overflowResult rm neg, flagOF ||| flagNX)
  else (withSign neg bits,
    (if inexact && tinyAfterRounding rm neg m e top then flagUF else 0) ||| inexactFlag inexact)

/-- An exact sum `v` × 2 ^ `e` rounded; an exact zero takes the sign of both terms, and of terms with opposite signs +0, or -0
under RDN (R331). -/
def roundSum (rm : Rounding) (negX negY : Bool) (v e : Int) : FpResult :=
  if v = 0 then (zero (if negX = negY then negX else rm == .rdn), 0)
  else roundF32 rm (decide (v < 0)) v.natAbs e

/-- NV when one of the operands is a signalling NaN (R321). -/
def nanFlag (b : Bool) : BitVec 5 := if b then flagNV else 0

/-! ### Arithmetic -/

/-- Flip the sign bit of a pattern. -/
def fNeg (w : Word) : Word := w ^^^ 0x80000000

/-- `round(a + b)` (R331). -/
def fAdd (rm : Rounding) (a b : Word) : FpResult :=
  if isNaN a || isNaN b then (canonicalNaN, nanFlag (isSNaN a || isSNaN b))
  else if isInf a then if isInf b && fSign a != fSign b then (canonicalNaN, flagNV) else (a, 0)
  else if isInf b then (b, 0)
  else
    let e := min (fPow a) (fPow b)
    roundSum rm (fSign a) (fSign b)
      (signedAt (fSign a) (fMant a) (fPow a) e + signedAt (fSign b) (fMant b) (fPow b) e) e

/-- `round(a - b)` (R332). A NaN keeps its kind when its sign flips. -/
def fSub (rm : Rounding) (a b : Word) : FpResult := fAdd rm a (fNeg b)

/-- `round(a × b)` (R333). -/
def fMul (rm : Rounding) (a b : Word) : FpResult :=
  let neg := fSign a != fSign b
  if isNaN a || isNaN b then (canonicalNaN, nanFlag (isSNaN a || isSNaN b))
  else if (isInf a && isZero b) || (isZero a && isInf b) then (canonicalNaN, flagNV)
  else if isInf a || isInf b then (infinity neg, 0)
  else if isZero a || isZero b then (zero neg, 0)
  else roundF32 rm neg (fMant a * fMant b) (fPow a + fPow b)

/-- `round(a × b + c)` with one rounding (43 section 2): NV for ∞ × 0 even when `c` is a quiet NaN. -/
def fMulAdd (rm : Rounding) (a b c : Word) : FpResult :=
  let neg := fSign a != fSign b
  if (isInf a && isZero b) || (isZero a && isInf b) then (canonicalNaN, flagNV)
  else if isNaN a || isNaN b || isNaN c then (canonicalNaN, nanFlag (isSNaN a || isSNaN b || isSNaN c))
  else if isInf a || isInf b then
    if isInf c && fSign c != neg then (canonicalNaN, flagNV) else (infinity neg, 0)
  else if isInf c then (c, 0)
  else
    let p := fPow a + fPow b
    let e := min p (fPow c)
    roundSum rm neg (fSign c)
      (signedAt neg (fMant a * fMant b) p e + signedAt (fSign c) (fMant c) (fPow c) e) e

/-- `round(a ÷ b)` (R334). The quotient carries more than 26 significant bits and a bit for the remainder. -/
def fDiv (rm : Rounding) (a b : Word) : FpResult :=
  let neg := fSign a != fSign b
  if isNaN a || isNaN b then (canonicalNaN, nanFlag (isSNaN a || isSNaN b))
  else if (isInf a && isInf b) || (isZero a && isZero b) then (canonicalNaN, flagNV)
  else if isInf a then (infinity neg, 0)
  else if isZero b then (infinity neg, flagDZ)
  else if isInf b || isZero a then (zero neg, 0)
  else
    let n := fMant a <<< 60
    let q := n / fMant b
    let sticky := if n % fMant b = 0 then 0 else 1
    roundF32 rm neg (2 * q + sticky) (fPow a - fPow b - 61)

/-- The largest `r` + `x` with `x` < 2 ^ `k` whose square is at most `n`, bit by bit. -/
def sqrtBits (n : Nat) : Nat → Nat → Nat
  | 0, r => r
  | k + 1, r => sqrtBits n k (if (r + 2 ^ k) * (r + 2 ^ k) ≤ n then r + 2 ^ k else r)

/-- `round(sqrt(a))` (R335). -/
def fSqrt (rm : Rounding) (a : Word) : FpResult :=
  if isNaN a then (canonicalNaN, nanFlag (isSNaN a))
  else if isZero a then (a, 0)
  else if fSign a then (canonicalNaN, flagNV)
  else if isInf a then (a, 0)
  else
    let odd := fPow a % 2 != 0
    let n := (if odd then 2 * fMant a else fMant a) <<< 60
    let p := (if odd then fPow a - 1 else fPow a) - 60
    let r := sqrtBits n 44 0
    let sticky := if r * r = n then 0 else 1
    roundF32 rm false (2 * r + sticky) (p / 2 - 1)

/-! ### Comparisons, minimum, maximum, classification -/

/-- A number that orders the patterns that are no NaN as their values are ordered; both zeros give 0. -/
def fKey (w : Word) : Int :=
  let m : Int := ((w.extractLsb' 0 31).toNat : Int)
  if fSign w then -m else m

/-- Quiet equality (R344). -/
def fEq (a b : Word) : FpResult :=
  if isNaN a || isNaN b then (0, nanFlag (isSNaN a || isSNaN b)) else (boolWord (fKey a == fKey b), 0)

/-- Signalling less-than (R345). -/
def fLt (a b : Word) : FpResult :=
  if isNaN a || isNaN b then (0, flagNV) else (boolWord (decide (fKey a < fKey b)), 0)

/-- Signalling less-or-equal (R346). -/
def fLe (a b : Word) : FpResult :=
  if isNaN a || isNaN b then (0, flagNV) else (boolWord (decide (fKey a ≤ fKey b)), 0)

/-- `a` before `b`, with -0 before +0. -/
def fBefore (a b : Word) : Bool := decide (fKey a < fKey b) || (fKey a == fKey b && fSign a)

/-- The common NaN rule of min and max (R339): one NaN gives the other operand, two give the canonical NaN. -/
def minMax (pick : Word) (a b : Word) : FpResult :=
  (if isNaN a && isNaN b then canonicalNaN else if isNaN a then b else if isNaN b then a else pick,
    nanFlag (isSNaN a || isSNaN b))

/-- R339. -/
def fMin (a b : Word) : FpResult := minMax (if fBefore a b then a else b) a b

/-- R340. -/
def fMax (a b : Word) : FpResult := minMax (if fBefore a b then b else a) a b

/-- The one-hot class (R347). -/
def fClass (w : Word) : Word :=
  if isNaN w then (if isSNaN w then 0x100 else 0x200)
  else if isInf w then (if fSign w then 0x001 else 0x080)
  else if isZero w then (if fSign w then 0x008 else 0x010)
  else if fExp w = 0 then (if fSign w then 0x004 else 0x020)
  else if fSign w then 0x002 else 0x040

/-! ### Conversions (R341, R342, R348, R349) -/

/-- A finite pattern rounded to an integer, and whether it is inexact. -/
def roundToInt (rm : Rounding) (w : Word) : Int × Bool :=
  let r := roundAt rm (fSign w) (fMant w) (fPow w) 0
  (if fSign w then -(r.1 : Int) else (r.1 : Int), r.2)

/-- To an integer between `lo` and `hi`: NaN and what lies above give `hi`, what lies below gives `lo`, both with NV alone. -/
def fToInt (rm : Rounding) (lo hi : Int) (w : Word) : FpResult :=
  if isNaN w then (BitVec.ofInt 32 hi, flagNV)
  else if isInf w then (BitVec.ofInt 32 (if fSign w then lo else hi), flagNV)
  else
    let r := roundToInt rm w
    if r.1 < lo then (BitVec.ofInt 32 lo, flagNV)
    else if hi < r.1 then (BitVec.ofInt 32 hi, flagNV)
    else (BitVec.ofInt 32 r.1, inexactFlag r.2)

/-- To a signed word (R341). -/
def fToSigned (rm : Rounding) (w : Word) : FpResult := fToInt rm (-2147483648) 2147483647 w

/-- To an unsigned word (R342). -/
def fToUnsigned (rm : Rounding) (w : Word) : FpResult := fToInt rm 0 4294967295 w

/-- From an integer. -/
def fOfInt (rm : Rounding) (v : Int) : FpResult :=
  if v = 0 then (0, 0) else roundF32 rm (decide (v < 0)) v.natAbs 0

end Sys2Proof.Machine
end

