-- ==== Sys2Proof/Machine/Fpu.lean ====
section
/-! DEFINITION. How a floating-point instruction executes: the checks of 43 R322 to R324, the destination, the flags, mstatus.FS. -/

namespace Sys2Proof.Machine

/-- An instruction that exists only where the F registers do: FPU = 1 and ZFINX = 0 (43 R351). -/
def ifFRegs (s : State) (r : Result) : Result := if hasFs s.cfg then r else illegal s

/-- A floating-point instruction with a floating-point result (R322, R324). -/
def fpTo (rd : Reg) (v : FpResult) (s : State) : Result :=
  if s.fpUsable then .next (s.retire {} (((s.setFreg rd v.1).accrue v.2).markDirty)) else illegal s

/-- A floating-point instruction with an integer result. -/
def fpToInt (rd : Reg) (v : FpResult) (s : State) : Result :=
  if s.fpUsable then .next (s.retire {} (((s.setReg rd v.1).accrue v.2).markDirty)) else illegal s

/-- The same for an instruction with a rounding-mode field (R323). -/
def fpRounded (rm : BitVec 3) (rd : Reg) (v : Rounding → FpResult) (s : State) : Result :=
  match s.rounding rm with
  | some m => fpTo rd (v m) s
  | none => illegal s

/-- An integer result under a rounding mode. -/
def fpRoundedToInt (rm : BitVec 3) (rd : Reg) (v : Rounding → FpResult) (s : State) : Result :=
  match s.rounding rm with
  | some m => fpToInt rd (v m) s
  | none => illegal s

/-- A load into an F register (R325): FS becomes Dirty. -/
def fpLoad (len : Word) (rd : Reg) (a : Word) (s : State) : Result :=
  ifFRegs s
    (if s.fpUsable then .next (s.retire { len := len, load := true } ((s.setFreg rd (s.loadWord a)).markDirty))
    else illegal s)

/-- A store from an F register (R326): FS stays as it is. -/
def fpStore (len : Word) (rs2 : Reg) (a : Word) (s : State) : Result :=
  ifFRegs s
    (if s.fpUsable then .next (s.retire { len := len, store := true } (s.storeWord a (s.freg rs2))) else illegal s)

/-- The magnitude of `w` with a sign (R336 to R338). -/
def injectSign (neg : Bool) (w : Word) : Word := (if neg then 1#1 else 0#1) ++ w.extractLsb' 0 31

end Sys2Proof.Machine
end

