-- ==== Sys2Proof/Machine/Rv32c.lean ====
section
/-! DEFINITION. The C extension (spec/41_rv32c.md rules R262 to R292): each instruction does what its expansion does, with length 2. -/

namespace Sys2Proof.Machine

/-- `c.addi4spn`, R262. -/
def execCAddi4spn  (rd : Reg3) (imm : BitVec 8) (s : State) : Result := writeBack 2 (fullReg rd) (s.addrWords 2 imm) s

/-- `c.lw`, R263. -/
def execCLw  (rd rs1 : Reg3) (imm : BitVec 5) (s : State) : Result :=
  loadTo 2 (fullReg rd) (s.loadWord (s.addrWords (fullReg rs1) imm)) s

/-- `c.sw`, R264. -/
def execCSw  (rs2 rs1 : Reg3) (imm : BitVec 5) (s : State) : Result :=
  storeDone 2 (s.storeWord (s.addrWords (fullReg rs1) imm) (s.reg (fullReg rs2))) s

/-- `c.flw`, R265. -/
def execCFlw  (rd rs1 : Reg3) (imm : BitVec 5) (s : State) : Result :=
  fpLoad 2 (fullReg rd) (s.addrWords (fullReg rs1) imm) s

/-- `c.fsw`, R266. -/
def execCFsw  (rs2 rs1 : Reg3) (imm : BitVec 5) (s : State) : Result :=
  fpStore 2 (fullReg rs2) (s.addrWords (fullReg rs1) imm) s

/-- `c.nop`, R267. -/
def execCNop  (_imm : BitVec 6) (s : State) : Result := .next (s.retire { len := 2 } s)

/-- `c.addi`, R268. -/
def execCAddi  (rd : Reg) (imm : BitVec 6) (s : State) : Result := writeBack 2 rd (s.reg rd + imm.signExtend 32) s

/-- `c.jal`, R269. -/
def execCJal  (imm : BitVec 11) (s : State) : Result := jumpLink 2 1 (s.pc + offset imm) s

/-- `c.li`, R270. -/
def execCLi  (rd : Reg) (imm : BitVec 6) (s : State) : Result := writeBack 2 rd (imm.signExtend 32) s

/-- `c.addi16sp`, R271. -/
def execCAddi16sp  (imm : BitVec 6) (s : State) : Result := writeBack 2 2 (s.reg 2 + (imm ++ 0#4).signExtend 32) s

/-- `c.lui`, R272. -/
def execCLui  (rd : Reg) (imm : BitVec 6) (s : State) : Result := writeBack 2 rd ((imm ++ 0#12).signExtend 32) s

/-- `c.srli`, R273. -/
def execCSrli  (rd : Reg3) (shamt : BitVec 5) (s : State) : Result :=
  writeBack 2 (fullReg rd) (s.reg (fullReg rd) >>> shamt.toNat) s

/-- `c.srai`, R274. -/
def execCSrai  (rd : Reg3) (shamt : BitVec 5) (s : State) : Result :=
  writeBack 2 (fullReg rd) ((s.reg (fullReg rd)).sshiftRight shamt.toNat) s

/-- `c.andi`, R275. -/
def execCAndi  (rd : Reg3) (imm : BitVec 6) (s : State) : Result :=
  writeBack 2 (fullReg rd) (s.reg (fullReg rd) &&& imm.signExtend 32) s

/-- `c.sub`, R276. -/
def execCSub  (rd rs2 : Reg3) (s : State) : Result :=
  writeBack 2 (fullReg rd) (s.reg (fullReg rd) - s.reg (fullReg rs2)) s

/-- `c.xor`, R277. -/
def execCXor  (rd rs2 : Reg3) (s : State) : Result :=
  writeBack 2 (fullReg rd) (s.reg (fullReg rd) ^^^ s.reg (fullReg rs2)) s

/-- `c.or`, R278. -/
def execCOr  (rd rs2 : Reg3) (s : State) : Result :=
  writeBack 2 (fullReg rd) (s.reg (fullReg rd) ||| s.reg (fullReg rs2)) s

/-- `c.and`, R279. -/
def execCAnd  (rd rs2 : Reg3) (s : State) : Result :=
  writeBack 2 (fullReg rd) (s.reg (fullReg rd) &&& s.reg (fullReg rs2)) s

/-- `c.j`, R280. -/
def execCJ  (imm : BitVec 11) (s : State) : Result := jumpLink 2 0 (s.pc + offset imm) s

/-- `c.beqz`, R281. -/
def execCBeqz  (rs1 : Reg3) (imm : BitVec 8) (s : State) : Result := branchIf 2 (s.reg (fullReg rs1) == 0) (offset imm) s

/-- `c.bnez`, R282. -/
def execCBnez  (rs1 : Reg3) (imm : BitVec 8) (s : State) : Result := branchIf 2 (s.reg (fullReg rs1) != 0) (offset imm) s

/-- `c.slli`, R283. -/
def execCSlli  (rd : Reg) (shamt : BitVec 5) (s : State) : Result := writeBack 2 rd (s.reg rd <<< shamt.toNat) s

/-- `c.lwsp`, R284. -/
def execCLwsp  (rd : Reg) (imm : BitVec 6) (s : State) : Result := loadTo 2 rd (s.loadWord (s.addrWords 2 imm)) s

/-- `c.flwsp`, R285. -/
def execCFlwsp  (rd : Reg) (imm : BitVec 6) (s : State) : Result := fpLoad 2 rd (s.addrWords 2 imm) s

/-- `c.jr`, R286. -/
def execCJr  (rs1 : Reg) (s : State) : Result := jumpLink 2 0 (s.reg rs1) s

/-- `c.mv`, R287. -/
def execCMv  (rd rs2 : Reg) (s : State) : Result := writeBack 2 rd (s.reg rs2) s

/-- `c.ebreak`, R288. -/
def execCEbreak (s : State) : Result := breakpoint s

/-- `c.jalr`, R289. -/
def execCJalr  (rs1 : Reg) (s : State) : Result := jumpLink 2 1 (s.reg rs1) s

/-- `c.add`, R290. -/
def execCAdd  (rd rs2 : Reg) (s : State) : Result := writeBack 2 rd (s.reg rd + s.reg rs2) s

/-- `c.swsp`, R291. -/
def execCSwsp  (rs2 : Reg) (imm : BitVec 6) (s : State) : Result :=
  storeDone 2 (s.storeWord (s.addrWords 2 imm) (s.reg rs2)) s

/-- `c.fswsp`, R292. -/
def execCFswsp  (rs2 : Reg) (imm : BitVec 6) (s : State) : Result := fpStore 2 rs2 (s.addrWords 2 imm) s

end Sys2Proof.Machine
end

