-- ==== Sys2Proof/Machine/Rv32f.lean ====
section
/-! DEFINITION. The F extension and Zfinx (spec/43_rv32f_zfinx.md rules R325 to R350). -/

namespace Sys2Proof.Machine

/-- `flw`, R325. -/
def execFlw  (rd rs1 : Reg) (imm : BitVec 12) (s : State) : Result := fpLoad 4 rd (s.addr rs1 imm) s

/-- `fsw`, R326. -/
def execFsw  (rs2 rs1 : Reg) (imm : BitVec 12) (s : State) : Result := fpStore 4 rs2 (s.addr rs1 imm) s

/-- `fmadd.s`, R327. -/
def execFmaddS  (rd rs1 rs2 rs3 : Reg) (rm : BitVec 3) (s : State) : Result :=
  fpRounded rm rd (fun m => fMulAdd m (s.freg rs1) (s.freg rs2) (s.freg rs3)) s

/-- `fmsub.s`, R328. -/
def execFmsubS  (rd rs1 rs2 rs3 : Reg) (rm : BitVec 3) (s : State) : Result :=
  fpRounded rm rd (fun m => fMulAdd m (s.freg rs1) (s.freg rs2) (fNeg (s.freg rs3))) s

/-- `fnmsub.s`, R329. -/
def execFnmsubS  (rd rs1 rs2 rs3 : Reg) (rm : BitVec 3) (s : State) : Result :=
  fpRounded rm rd (fun m => fMulAdd m (fNeg (s.freg rs1)) (s.freg rs2) (s.freg rs3)) s

/-- `fnmadd.s`, R330. -/
def execFnmaddS  (rd rs1 rs2 rs3 : Reg) (rm : BitVec 3) (s : State) : Result :=
  fpRounded rm rd (fun m => fMulAdd m (fNeg (s.freg rs1)) (s.freg rs2) (fNeg (s.freg rs3))) s

/-- `fadd.s`, R331. -/
def execFaddS  (rd rs1 rs2 : Reg) (rm : BitVec 3) (s : State) : Result :=
  fpRounded rm rd (fun m => fAdd m (s.freg rs1) (s.freg rs2)) s

/-- `fsub.s`, R332. -/
def execFsubS  (rd rs1 rs2 : Reg) (rm : BitVec 3) (s : State) : Result :=
  fpRounded rm rd (fun m => fSub m (s.freg rs1) (s.freg rs2)) s

/-- `fmul.s`, R333. -/
def execFmulS  (rd rs1 rs2 : Reg) (rm : BitVec 3) (s : State) : Result :=
  fpRounded rm rd (fun m => fMul m (s.freg rs1) (s.freg rs2)) s

/-- `fdiv.s`, R334. -/
def execFdivS  (rd rs1 rs2 : Reg) (rm : BitVec 3) (s : State) : Result :=
  fpRounded rm rd (fun m => fDiv m (s.freg rs1) (s.freg rs2)) s

/-- `fsqrt.s`, R335. -/
def execFsqrtS  (rd rs1 : Reg) (rm : BitVec 3) (s : State) : Result := fpRounded rm rd (fun m => fSqrt m (s.freg rs1)) s

/-- `fsgnj.s`, R336. -/
def execFsgnjS  (rd rs1 rs2 : Reg) (s : State) : Result := fpTo rd (injectSign (fSign (s.freg rs2)) (s.freg rs1), 0) s

/-- `fsgnjn.s`, R337. -/
def execFsgnjnS  (rd rs1 rs2 : Reg) (s : State) : Result := fpTo rd (injectSign (!fSign (s.freg rs2)) (s.freg rs1), 0) s

/-- `fsgnjx.s`, R338. -/
def execFsgnjxS  (rd rs1 rs2 : Reg) (s : State) : Result :=
  fpTo rd (injectSign (fSign (s.freg rs1) != fSign (s.freg rs2)) (s.freg rs1), 0) s

/-- `fmin.s`, R339. -/
def execFminS  (rd rs1 rs2 : Reg) (s : State) : Result := fpTo rd (fMin (s.freg rs1) (s.freg rs2)) s

/-- `fmax.s`, R340. -/
def execFmaxS  (rd rs1 rs2 : Reg) (s : State) : Result := fpTo rd (fMax (s.freg rs1) (s.freg rs2)) s

/-- `fcvt.w.s`, R341. -/
def execFcvtWS  (rd rs1 : Reg) (rm : BitVec 3) (s : State) : Result :=
  fpRoundedToInt rm rd (fun m => fToSigned m (s.freg rs1)) s

/-- `fcvt.wu.s`, R342. -/
def execFcvtWuS  (rd rs1 : Reg) (rm : BitVec 3) (s : State) : Result :=
  fpRoundedToInt rm rd (fun m => fToUnsigned m (s.freg rs1)) s

/-- `fmv.x.w`, R343. -/
def execFmvXW  (rd rs1 : Reg) (s : State) : Result := ifFRegs s (fpToInt rd (s.freg rs1, 0) s)

/-- `feq.s`, R344. -/
def execFeqS  (rd rs1 rs2 : Reg) (s : State) : Result := fpToInt rd (fEq (s.freg rs1) (s.freg rs2)) s

/-- `flt.s`, R345. -/
def execFltS  (rd rs1 rs2 : Reg) (s : State) : Result := fpToInt rd (fLt (s.freg rs1) (s.freg rs2)) s

/-- `fle.s`, R346. -/
def execFleS  (rd rs1 rs2 : Reg) (s : State) : Result := fpToInt rd (fLe (s.freg rs1) (s.freg rs2)) s

/-- `fclass.s`, R347. -/
def execFclassS  (rd rs1 : Reg) (s : State) : Result := fpToInt rd (fClass (s.freg rs1), 0) s

/-- `fcvt.s.w`, R348. -/
def execFcvtSW  (rd rs1 : Reg) (rm : BitVec 3) (s : State) : Result :=
  fpRounded rm rd (fun m => fOfInt m (s.reg rs1).toInt) s

/-- `fcvt.s.wu`, R349. -/
def execFcvtSWu  (rd rs1 : Reg) (rm : BitVec 3) (s : State) : Result :=
  fpRounded rm rd (fun m => fOfInt m ((s.reg rs1).toNat : Int)) s

/-- `fmv.w.x`, R350. -/
def execFmvWX  (rd rs1 : Reg) (s : State) : Result := ifFRegs s (fpTo rd (s.reg rs1, 0) s)

end Sys2Proof.Machine
end

