-- ==== Sys2Proof/Machine/Rv32i.lean ====
section
/-! DEFINITION. RV32I (spec/40_rv32im.md rules R201 to R240). -/

namespace Sys2Proof.Machine

/-- `lui`, R201. -/
def execLui  (rd : Reg) (imm : BitVec 20) (s : State) : Result := writeBack 4 rd (imm ++ 0#12) s

/-- `auipc`, R202. -/
def execAuipc  (rd : Reg) (imm : BitVec 20) (s : State) : Result := writeBack 4 rd (s.pc + (imm ++ 0#12)) s

/-- `jal`, R203. -/
def execJal  (rd : Reg) (imm : BitVec 20) (s : State) : Result := jumpLink 4 rd (s.pc + offset imm) s

/-- `jalr`, R204. -/
def execJalr  (rd rs1 : Reg) (imm : BitVec 12) (s : State) : Result := jumpLink 4 rd (s.addr rs1 imm) s

/-- `beq`, R205. -/
def execBeq  (rs1 rs2 : Reg) (imm : BitVec 12) (s : State) : Result := branchIf 4 (s.reg rs1 == s.reg rs2) (offset imm) s

/-- `bne`, R206. -/
def execBne  (rs1 rs2 : Reg) (imm : BitVec 12) (s : State) : Result := branchIf 4 (s.reg rs1 != s.reg rs2) (offset imm) s

/-- `blt`, R207. -/
def execBlt  (rs1 rs2 : Reg) (imm : BitVec 12) (s : State) : Result :=
  branchIf 4 ((s.reg rs1).slt (s.reg rs2)) (offset imm) s

/-- `bge`, R208. -/
def execBge  (rs1 rs2 : Reg) (imm : BitVec 12) (s : State) : Result :=
  branchIf 4 (!(s.reg rs1).slt (s.reg rs2)) (offset imm) s

/-- `bltu`, R209. -/
def execBltu  (rs1 rs2 : Reg) (imm : BitVec 12) (s : State) : Result :=
  branchIf 4 ((s.reg rs1).ult (s.reg rs2)) (offset imm) s

/-- `bgeu`, R210. -/
def execBgeu  (rs1 rs2 : Reg) (imm : BitVec 12) (s : State) : Result :=
  branchIf 4 (!(s.reg rs1).ult (s.reg rs2)) (offset imm) s

/-- `lb`, R211. -/
def execLb  (rd rs1 : Reg) (imm : BitVec 12) (s : State) : Result :=
  loadTo 4 rd ((s.loadByte (s.addr rs1 imm)).signExtend 32) s

/-- `lh`, R212. -/
def execLh  (rd rs1 : Reg) (imm : BitVec 12) (s : State) : Result :=
  loadTo 4 rd ((s.loadHalf (s.addr rs1 imm)).signExtend 32) s

/-- `lw`, R213. -/
def execLw  (rd rs1 : Reg) (imm : BitVec 12) (s : State) : Result := loadTo 4 rd (s.loadWord (s.addr rs1 imm)) s

/-- `lbu`, R214. -/
def execLbu  (rd rs1 : Reg) (imm : BitVec 12) (s : State) : Result :=
  loadTo 4 rd ((s.loadByte (s.addr rs1 imm)).setWidth 32) s

/-- `lhu`, R215. -/
def execLhu  (rd rs1 : Reg) (imm : BitVec 12) (s : State) : Result :=
  loadTo 4 rd ((s.loadHalf (s.addr rs1 imm)).setWidth 32) s

/-- `sb`, R216. -/
def execSb  (rs2 rs1 : Reg) (imm : BitVec 12) (s : State) : Result :=
  storeDone 4 (s.storeByte (s.addr rs1 imm) ((s.reg rs2).extractLsb' 0 8)) s

/-- `sh`, R217. -/
def execSh  (rs2 rs1 : Reg) (imm : BitVec 12) (s : State) : Result :=
  storeDone 4 (s.storeHalf (s.addr rs1 imm) ((s.reg rs2).extractLsb' 0 16)) s

/-- `sw`, R218. -/
def execSw  (rs2 rs1 : Reg) (imm : BitVec 12) (s : State) : Result :=
  storeDone 4 (s.storeWord (s.addr rs1 imm) (s.reg rs2)) s

/-- `addi`, R219. -/
def execAddi  (rd rs1 : Reg) (imm : BitVec 12) (s : State) : Result := writeBack 4 rd (s.reg rs1 + sext12 imm) s

/-- `slti`, R220. -/
def execSlti  (rd rs1 : Reg) (imm : BitVec 12) (s : State) : Result :=
  writeBack 4 rd (boolWord ((s.reg rs1).slt (sext12 imm))) s

/-- `sltiu`, R221. -/
def execSltiu  (rd rs1 : Reg) (imm : BitVec 12) (s : State) : Result :=
  writeBack 4 rd (boolWord ((s.reg rs1).ult (sext12 imm))) s

/-- `xori`, R222. -/
def execXori  (rd rs1 : Reg) (imm : BitVec 12) (s : State) : Result := writeBack 4 rd (s.reg rs1 ^^^ sext12 imm) s

/-- `ori`, R223. -/
def execOri  (rd rs1 : Reg) (imm : BitVec 12) (s : State) : Result := writeBack 4 rd (s.reg rs1 ||| sext12 imm) s

/-- `andi`, R224. -/
def execAndi  (rd rs1 : Reg) (imm : BitVec 12) (s : State) : Result := writeBack 4 rd (s.reg rs1 &&& sext12 imm) s

/-- `slli`, R225. -/
def execSlli  (rd rs1 : Reg) (shamt : BitVec 5) (s : State) : Result := writeBack 4 rd (s.reg rs1 <<< shamt.toNat) s

/-- `srli`, R226. -/
def execSrli  (rd rs1 : Reg) (shamt : BitVec 5) (s : State) : Result := writeBack 4 rd (s.reg rs1 >>> shamt.toNat) s

/-- `srai`, R227. -/
def execSrai  (rd rs1 : Reg) (shamt : BitVec 5) (s : State) : Result :=
  writeBack 4 rd ((s.reg rs1).sshiftRight shamt.toNat) s

/-- `add`, R228. -/
def execAdd  (rd rs1 rs2 : Reg) (s : State) : Result := writeBack 4 rd (s.reg rs1 + s.reg rs2) s

/-- `sub`, R229. -/
def execSub  (rd rs1 rs2 : Reg) (s : State) : Result := writeBack 4 rd (s.reg rs1 - s.reg rs2) s

/-- `sll`, R230. -/
def execSll  (rd rs1 rs2 : Reg) (s : State) : Result := writeBack 4 rd (s.reg rs1 <<< shiftAmount (s.reg rs2)) s

/-- `slt`, R231. -/
def execSlt  (rd rs1 rs2 : Reg) (s : State) : Result := writeBack 4 rd (boolWord ((s.reg rs1).slt (s.reg rs2))) s

/-- `sltu`, R232. -/
def execSltu  (rd rs1 rs2 : Reg) (s : State) : Result := writeBack 4 rd (boolWord ((s.reg rs1).ult (s.reg rs2))) s

/-- `xor`, R233. -/
def execXor  (rd rs1 rs2 : Reg) (s : State) : Result := writeBack 4 rd (s.reg rs1 ^^^ s.reg rs2) s

/-- `srl`, R234. -/
def execSrl  (rd rs1 rs2 : Reg) (s : State) : Result := writeBack 4 rd (s.reg rs1 >>> shiftAmount (s.reg rs2)) s

/-- `sra`, R235. -/
def execSra  (rd rs1 rs2 : Reg) (s : State) : Result :=
  writeBack 4 rd ((s.reg rs1).sshiftRight (shiftAmount (s.reg rs2))) s

/-- `or`, R236. -/
def execOr  (rd rs1 rs2 : Reg) (s : State) : Result := writeBack 4 rd (s.reg rs1 ||| s.reg rs2) s

/-- `and`, R237. -/
def execAnd  (rd rs1 rs2 : Reg) (s : State) : Result := writeBack 4 rd (s.reg rs1 &&& s.reg rs2) s

/-- `ecall`, R239. -/
def execEcall (s : State) : Result := environmentCall s

/-- `ebreak`, R240. -/
def execEbreak (s : State) : Result := breakpoint s

end Sys2Proof.Machine
end

