-- ==== Sys2Proof/Machine/Rv32m.lean ====
section
/-! DEFINITION. The M extension (spec/40_rv32im.md rules R241 to R248). -/

namespace Sys2Proof.Machine

/-- Bits 63:32 of a 64-bit product. -/
def mulHigh (x y : BitVec 64) : Word := (x * y).extractLsb' 32 32

/-- Signed division toward zero (R245): by zero gives -1, and the overflow case gives the dividend. -/
def divSigned (x y : Word) : Word := if y = 0 then 0xFFFFFFFF else x.sdiv y

/-- Unsigned division (R246). -/
def divUnsigned (x y : Word) : Word := if y = 0 then 0xFFFFFFFF else x / y

/-- Signed remainder with the sign of the dividend (R247): by zero gives the dividend. -/
def remSigned (x y : Word) : Word := if y = 0 then x else x.srem y

/-- Unsigned remainder (R248). -/
def remUnsigned (x y : Word) : Word := if y = 0 then x else x % y

/-- `mul`, R241. -/
def execMul  (rd rs1 rs2 : Reg) (s : State) : Result := writeBack 4 rd (s.reg rs1 * s.reg rs2) s

/-- `mulh`, R242. -/
def execMulh  (rd rs1 rs2 : Reg) (s : State) : Result :=
  writeBack 4 rd (mulHigh ((s.reg rs1).signExtend 64) ((s.reg rs2).signExtend 64)) s

/-- `mulhsu`, R243. -/
def execMulhsu  (rd rs1 rs2 : Reg) (s : State) : Result :=
  writeBack 4 rd (mulHigh ((s.reg rs1).signExtend 64) ((s.reg rs2).setWidth 64)) s

/-- `mulhu`, R244. -/
def execMulhu  (rd rs1 rs2 : Reg) (s : State) : Result :=
  writeBack 4 rd (mulHigh ((s.reg rs1).setWidth 64) ((s.reg rs2).setWidth 64)) s

/-- `div`, R245. -/
def execDiv  (rd rs1 rs2 : Reg) (s : State) : Result := writeBack 4 rd (divSigned (s.reg rs1) (s.reg rs2)) s

/-- `divu`, R246. -/
def execDivu  (rd rs1 rs2 : Reg) (s : State) : Result := writeBack 4 rd (divUnsigned (s.reg rs1) (s.reg rs2)) s

/-- `rem`, R247. -/
def execRem  (rd rs1 rs2 : Reg) (s : State) : Result := writeBack 4 rd (remSigned (s.reg rs1) (s.reg rs2)) s

/-- `remu`, R248. -/
def execRemu  (rd rs1 rs2 : Reg) (s : State) : Result := writeBack 4 rd (remUnsigned (s.reg rs1) (s.reg rs2)) s

end Sys2Proof.Machine
end

