-- ==== Sys2Proof/Machine/System.lean ====
section
/-! DEFINITION. Zicsr, the fences, mret, dret and wfi (spec/42_zicsr_zifencei_priv.md rules R300 to R311). -/

namespace Sys2Proof.Machine

/-- `wfi` is a nop (42 R311, 60_exceptions R880): a debug request, Debug Mode, a single step, a trigger match (of this
instruction or of the next, notes/assumptions/17.md), COREV_CLUSTER = 1, or a wake-up condition that already holds. -/
def State.wfiIsNop (s : State) : Bool :=
  s.debugRequested || s.debugMode || s.stepPhase == .armed || s.triggerAt s.pc || s.triggerAt (s.pc + 4)
    || s.cfg.corevCluster || s.mip &&& s.mie != 0

/-- `wfi` retires and, unless it is a nop, the hart sleeps. -/
def waitForInterrupt (s : State) : Result :=
  .next (s.retire {} (if s.wfiIsNop then s else { s with sleeping := true }))

/-- `csrrw`, R300. -/
def execCsrrw  (rd : Reg) (csr : BitVec 12) (rs1 : Reg) (s : State) : Result :=
  csrAccess rd csr true (fun _ => s.reg rs1) s

/-- `csrrs`, R302. -/
def execCsrrs  (rd : Reg) (csr : BitVec 12) (rs1 : Reg) (s : State) : Result :=
  csrAccess rd csr (rs1 != 0) (fun old => old ||| s.reg rs1) s

/-- `csrrc`, R303. -/
def execCsrrc  (rd : Reg) (csr : BitVec 12) (rs1 : Reg) (s : State) : Result :=
  csrAccess rd csr (rs1 != 0) (fun old => old &&& ~~~(s.reg rs1)) s

/-- `csrrwi`, R304. -/
def execCsrrwi  (rd : Reg) (csr : BitVec 12) (uimm : BitVec 5) (s : State) : Result :=
  csrAccess rd csr true (fun _ => uimm.setWidth 32) s

/-- `csrrsi`, R305. -/
def execCsrrsi  (rd : Reg) (csr : BitVec 12) (uimm : BitVec 5) (s : State) : Result :=
  csrAccess rd csr (uimm != 0) (fun old => old ||| uimm.setWidth 32) s

/-- `csrrci`, R310. -/
def execCsrrci  (rd : Reg) (csr : BitVec 12) (uimm : BitVec 5) (s : State) : Result :=
  csrAccess rd csr (uimm != 0) (fun old => old &&& ~~~(uimm.setWidth 32)) s

/-- `fence`, R306. -/
def execFence  (_imm : BitVec 12) (_rs1 _rd : Reg) (s : State) : Result := .next (s.retire { flush := true } s)

/-- `fence.i`, R307. -/
def execFenceI  (_imm : BitVec 12) (_rs1 _rd : Reg) (s : State) : Result := .next (s.retire { flush := true } s)

/-- `mret`, R308. -/
def execMret (s : State) : Result := machineReturn s

/-- `dret`, R309. -/
def execDret (s : State) : Result := debugReturn s

/-- `wfi`, R311. -/
def execWfi (s : State) : Result := waitForInterrupt s

end Sys2Proof.Machine
end

