-- ==== Sys2Proof/Machine/Xcv.lean ====
section
/-! DEFINITION. What the Xcv instructions share: they exist only with COREV_PULP = 1 (44 R370, 45 R410, 46 R440, 47 R510, 48 R540). -/

namespace Sys2Proof.Machine

/-- An instruction that exists only with COREV_PULP = 1. -/
def ifPulp (s : State) (r : Result) : Result := if s.cfg.corevPulp then r else illegal s

/-- An Xcv instruction that writes `v` to `rd`. -/
def xcv (rd : Reg) (v : Word) (s : State) : Result := ifPulp s (writeBack 4 rd v s)

end Sys2Proof.Machine
end

