-- ==== Sys2Proof/Machine/XcvAlu.lean ====
section
/-! DEFINITION. The Xcv ALU (spec/46_xcv_alu.md rules R441 to R496). -/

namespace Sys2Proof.Machine

/-- The least `i` from `n` on with `v[i]` = 1, out of `k` candidates, else 32. -/
def firstSet (v : Word) : Nat → Nat → Word
  | 0, _ => 32
  | k + 1, n => if v.getLsbD n then BitVec.ofNat 32 n else firstSet v k (n + 1)

/-- The greatest `i` below `n` with `v[i]` = 1, else 32. -/
def lastSet (v : Word) : Nat → Word
  | 0 => 32
  | n + 1 => if v.getLsbD n then BitVec.ofNat 32 n else lastSet v n

/-- R453. -/
def findFirst (v : Word) : Word := firstSet v 32 0

/-- R454. -/
def findLast (v : Word) : Word := lastSet v 32

/-- How many of the bits below `n`, from the top, equal `p` before one differs. -/
def runLength (v : Word) (p : Bool) : Nat → Nat
  | 0 => 0
  | n + 1 => if v.getLsbD n = p then runLength v p n + 1 else 0

/-- R455: the leading bits equal to bit 31, less one; 0 for 0. -/
def leadingBits (v : Word) : Word := if v = 0 then 0 else BitVec.ofNat 32 (runLength v (v.getLsbD 31) 32 - 1)

/-- How many of the bits below `n` are set. -/
def countSet (v : Word) : Nat → Nat
  | 0 => 0
  | n + 1 => (if v.getLsbD n then 1 else 0) + countSet v n

/-- R456. -/
def popCount (v : Word) : Word := BitVec.ofNat 32 (countSet v 32)

/-- The word whose bit `i` is bit `f i` of `v`, for `i` below `n`. -/
def permuteBits (v : Word) (f : Nat → Nat) : Nat → Word
  | 0 => 0
  | n + 1 => (if v.getLsbD (f n) then 1 <<< n else 0) ||| permuteBits v f n

/-- Reverse the groups of 1, 2 or 3 bits of `t`; a selector of 3 acts as 0 (R446). -/
def bitReverse (is3 : BitVec 2) (t : Word) : Word :=
  match is3 with
  | 0#2 => permuteBits t (fun i => 31 - i) 32
  | 1#2 => permuteBits t (fun i => 30 - 2 * (i / 2) + i % 2) 32
  | 2#2 => permuteBits t (fun i => 29 - 3 * (i / 3) + i % 3) 30
  | 3#2 => permuteBits t (fun i => 31 - i) 32

/-- R460. -/
def absVal (v : Word) : Word := if v.slt 0 then -v else v

/-- R463. -/
def minSigned (x y : Word) : Word := if x.slt y then x else y

/-- R464. -/
def minUnsigned (x y : Word) : Word := if x.ult y then x else y

/-- R465. -/
def maxSigned (x y : Word) : Word := if x.slt y then y else x

/-- R466. -/
def maxUnsigned (x y : Word) : Word := if x.ult y then y else x

/-- The upper bound of cv.clip and cv.clipu: 2^(Is2-1) - 1, and 0 for `Is2` = 0 (R471). The lower bound of cv.clip is its
negation less one in every case. -/
def clipBound (is2 : BitVec 5) : Word := if is2 = 0 then 0 else (1 <<< (is2.toNat - 1)) - 1

/-- The upper bound of cv.clipr and cv.clipur: `rs2` without its bit 31 (R473). -/
def clipBoundReg (v : Word) : Word := v &&& 0x7FFFFFFF

/-- `v` clipped to `lo`..`hi`, signed (R471 to R474). -/
def clipTo (lo hi v : Word) : Word := if v.sle lo then lo else if hi.sle v then hi else v

/-- `cv.extract`, R441. -/
def execCvExtract  (rd rs1 : Reg) (is3 is2 : BitVec 5) (s : State) : Result :=
  xcv rd (fieldSext (s.reg rs1) is2.toNat is3.toNat) s

/-- `cv.extractu`, R442. -/
def execCvExtractu  (rd rs1 : Reg) (is3 is2 : BitVec 5) (s : State) : Result :=
  xcv rd (fieldZext (s.reg rs1) is2.toNat is3.toNat) s

/-- `cv.insert`, R443. -/
def execCvInsert  (rd rs1 : Reg) (is3 is2 : BitVec 5) (s : State) : Result :=
  xcv rd (fieldInsert (s.reg rd) (s.reg rs1) is2.toNat is3.toNat) s

/-- `cv.bclr`, R444. -/
def execCvBclr  (rd rs1 : Reg) (is3 is2 : BitVec 5) (s : State) : Result :=
  xcv rd (s.reg rs1 &&& ~~~(fieldMask is2.toNat is3.toNat)) s

/-- `cv.bset`, R445. -/
def execCvBset  (rd rs1 : Reg) (is3 is2 : BitVec 5) (s : State) : Result :=
  xcv rd (s.reg rs1 ||| fieldMask is2.toNat is3.toNat) s

/-- `cv.bitrev`, R446. -/
def execCvBitrev  (rd rs1 : Reg) (is3 : BitVec 2) (is2 : BitVec 5) (s : State) : Result :=
  xcv rd (bitReverse is3 (s.reg rs1 <<< is2.toNat)) s

/-- `cv.extractr`, R447. -/
def execCvExtractr  (rd rs1 rs2 : Reg) (s : State) : Result :=
  xcv rd (fieldSext (s.reg rs1) (fieldPos (s.reg rs2)) (fieldLen (s.reg rs2))) s

/-- `cv.extractur`, R448. -/
def execCvExtractur  (rd rs1 rs2 : Reg) (s : State) : Result :=
  xcv rd (fieldZext (s.reg rs1) (fieldPos (s.reg rs2)) (fieldLen (s.reg rs2))) s

/-- `cv.insertr`, R449. -/
def execCvInsertr  (rd rs1 rs2 : Reg) (s : State) : Result :=
  xcv rd (fieldInsert (s.reg rd) (s.reg rs1) (fieldPos (s.reg rs2)) (fieldLen (s.reg rs2))) s

/-- `cv.bclrr`, R450. -/
def execCvBclrr  (rd rs1 rs2 : Reg) (s : State) : Result :=
  xcv rd (s.reg rs1 &&& ~~~(fieldMask (fieldPos (s.reg rs2)) (fieldLen (s.reg rs2)))) s

/-- `cv.bsetr`, R451. -/
def execCvBsetr  (rd rs1 rs2 : Reg) (s : State) : Result :=
  xcv rd (s.reg rs1 ||| fieldMask (fieldPos (s.reg rs2)) (fieldLen (s.reg rs2))) s

/-- `cv.ror`, R452. -/
def execCvRor  (rd rs1 rs2 : Reg) (s : State) : Result := xcv rd ((s.reg rs1).rotateRight (shiftAmount (s.reg rs2))) s

/-- `cv.ff1`, R453. -/
def execCvFf1  (rd rs1 : Reg) (s : State) : Result := xcv rd (findFirst (s.reg rs1)) s

/-- `cv.fl1`, R454. -/
def execCvFl1  (rd rs1 : Reg) (s : State) : Result := xcv rd (findLast (s.reg rs1)) s

/-- `cv.clb`, R455. -/
def execCvClb  (rd rs1 : Reg) (s : State) : Result := xcv rd (leadingBits (s.reg rs1)) s

/-- `cv.cnt`, R456. -/
def execCvCnt  (rd rs1 : Reg) (s : State) : Result := xcv rd (popCount (s.reg rs1)) s

/-- `cv.abs`, R460. -/
def execCvAbs  (rd rs1 : Reg) (s : State) : Result := xcv rd (absVal (s.reg rs1)) s

/-- `cv.sle`, R461. -/
def execCvSle  (rd rs1 rs2 : Reg) (s : State) : Result := xcv rd (boolWord ((s.reg rs1).sle (s.reg rs2))) s

/-- `cv.sleu`, R462. -/
def execCvSleu  (rd rs1 rs2 : Reg) (s : State) : Result := xcv rd (boolWord ((s.reg rs1).ule (s.reg rs2))) s

/-- `cv.min`, R463. -/
def execCvMin  (rd rs1 rs2 : Reg) (s : State) : Result := xcv rd (minSigned (s.reg rs1) (s.reg rs2)) s

/-- `cv.minu`, R464. -/
def execCvMinu  (rd rs1 rs2 : Reg) (s : State) : Result := xcv rd (minUnsigned (s.reg rs1) (s.reg rs2)) s

/-- `cv.max`, R465. -/
def execCvMax  (rd rs1 rs2 : Reg) (s : State) : Result := xcv rd (maxSigned (s.reg rs1) (s.reg rs2)) s

/-- `cv.maxu`, R466. -/
def execCvMaxu  (rd rs1 rs2 : Reg) (s : State) : Result := xcv rd (maxUnsigned (s.reg rs1) (s.reg rs2)) s

/-- `cv.exths`, R467. -/
def execCvExths  (rd rs1 : Reg) (s : State) : Result := xcv rd ((loHalf (s.reg rs1)).signExtend 32) s

/-- `cv.exthz`, R468. -/
def execCvExthz  (rd rs1 : Reg) (s : State) : Result := xcv rd ((loHalf (s.reg rs1)).setWidth 32) s

/-- `cv.extbs`, R469. -/
def execCvExtbs  (rd rs1 : Reg) (s : State) : Result := xcv rd ((byteOf (s.reg rs1) 0).signExtend 32) s

/-- `cv.extbz`, R470. -/
def execCvExtbz  (rd rs1 : Reg) (s : State) : Result := xcv rd ((byteOf (s.reg rs1) 0).setWidth 32) s

/-- `cv.clip`, R471. -/
def execCvClip  (rd rs1 : Reg) (is2 : BitVec 5) (s : State) : Result :=
  xcv rd (clipTo (-(clipBound is2) - 1) (clipBound is2) (s.reg rs1)) s

/-- `cv.clipu`, R472. -/
def execCvClipu  (rd rs1 : Reg) (is2 : BitVec 5) (s : State) : Result := xcv rd (clipTo 0 (clipBound is2) (s.reg rs1)) s

/-- `cv.clipr`, R473. -/
def execCvClipr  (rd rs1 rs2 : Reg) (s : State) : Result :=
  xcv rd (clipTo (-(clipBoundReg (s.reg rs2)) - 1) (clipBoundReg (s.reg rs2)) (s.reg rs1)) s

/-- `cv.clipur`, R474. -/
def execCvClipur  (rd rs1 rs2 : Reg) (s : State) : Result := xcv rd (clipTo 0 (clipBoundReg (s.reg rs2)) (s.reg rs1)) s

/-- `cv.addN`, R475. -/
def execCvAddN  (rd rs1 rs2 : Reg) (is3 : BitVec 5) (s : State) : Result :=
  xcv rd ((s.reg rs1 + s.reg rs2).sshiftRight is3.toNat) s

/-- `cv.adduN`, R476. -/
def execCvAdduN  (rd rs1 rs2 : Reg) (is3 : BitVec 5) (s : State) : Result :=
  xcv rd ((s.reg rs1 + s.reg rs2) >>> is3.toNat) s

/-- `cv.addRN`, R477. -/
def execCvAddRN  (rd rs1 rs2 : Reg) (is3 : BitVec 5) (s : State) : Result :=
  xcv rd ((s.reg rs1 + s.reg rs2 + roundConst is3.toNat).sshiftRight is3.toNat) s

/-- `cv.adduRN`, R478. -/
def execCvAdduRN  (rd rs1 rs2 : Reg) (is3 : BitVec 5) (s : State) : Result :=
  xcv rd ((s.reg rs1 + s.reg rs2 + roundConst is3.toNat) >>> is3.toNat) s

/-- `cv.subN`, R479. -/
def execCvSubN  (rd rs1 rs2 : Reg) (is3 : BitVec 5) (s : State) : Result :=
  xcv rd ((s.reg rs1 - s.reg rs2).sshiftRight is3.toNat) s

/-- `cv.subuN`, R480. -/
def execCvSubuN  (rd rs1 rs2 : Reg) (is3 : BitVec 5) (s : State) : Result :=
  xcv rd ((s.reg rs1 - s.reg rs2) >>> is3.toNat) s

/-- `cv.subRN`, R481. -/
def execCvSubRN  (rd rs1 rs2 : Reg) (is3 : BitVec 5) (s : State) : Result :=
  xcv rd ((s.reg rs1 - s.reg rs2 + roundConst is3.toNat).sshiftRight is3.toNat) s

/-- `cv.subuRN`, R482. -/
def execCvSubuRN  (rd rs1 rs2 : Reg) (is3 : BitVec 5) (s : State) : Result :=
  xcv rd ((s.reg rs1 - s.reg rs2 + roundConst is3.toNat) >>> is3.toNat) s

/-- `cv.addNr`, R483. -/
def execCvAddNr  (rd rs1 rs2 : Reg) (s : State) : Result :=
  xcv rd ((s.reg rd + s.reg rs1).sshiftRight (shiftAmount (s.reg rs2))) s

/-- `cv.adduNr`, R484. -/
def execCvAdduNr  (rd rs1 rs2 : Reg) (s : State) : Result := xcv rd ((s.reg rd + s.reg rs1) >>> shiftAmount (s.reg rs2)) s

/-- `cv.addRNr`, R485. -/
def execCvAddRNr  (rd rs1 rs2 : Reg) (s : State) : Result :=
  xcv rd ((s.reg rd + s.reg rs1 + roundConst (shiftAmount (s.reg rs2))).sshiftRight (shiftAmount (s.reg rs2))) s

/-- `cv.adduRNr`, R486. -/
def execCvAdduRNr  (rd rs1 rs2 : Reg) (s : State) : Result :=
  xcv rd ((s.reg rd + s.reg rs1 + roundConst (shiftAmount (s.reg rs2))) >>> shiftAmount (s.reg rs2)) s

/-- `cv.subNr`, R487. -/
def execCvSubNr  (rd rs1 rs2 : Reg) (s : State) : Result :=
  xcv rd ((s.reg rd - s.reg rs1).sshiftRight (shiftAmount (s.reg rs2))) s

/-- `cv.subuNr`, R488. -/
def execCvSubuNr  (rd rs1 rs2 : Reg) (s : State) : Result := xcv rd ((s.reg rd - s.reg rs1) >>> shiftAmount (s.reg rs2)) s

/-- `cv.subRNr`, R489. -/
def execCvSubRNr  (rd rs1 rs2 : Reg) (s : State) : Result :=
  xcv rd ((s.reg rd - s.reg rs1 + roundConst (shiftAmount (s.reg rs2))).sshiftRight (shiftAmount (s.reg rs2))) s

/-- `cv.subuRNr`, R490. -/
def execCvSubuRNr  (rd rs1 rs2 : Reg) (s : State) : Result :=
  xcv rd ((s.reg rd - s.reg rs1 + roundConst (shiftAmount (s.reg rs2))) >>> shiftAmount (s.reg rs2)) s

/-- `cv.beqimm`, R495. -/
def execCvBeqimm  (rs1 : Reg) (imm5 : BitVec 5) (imm : BitVec 12) (s : State) : Result :=
  ifPulp s (branchIf 4 (s.reg rs1 == imm5.signExtend 32) (offset imm) s)

/-- `cv.bneimm`, R496. -/
def execCvBneimm  (rs1 : Reg) (imm5 : BitVec 5) (imm : BitVec 12) (s : State) : Result :=
  ifPulp s (branchIf 4 (s.reg rs1 != imm5.signExtend 32) (offset imm) s)

end Sys2Proof.Machine
end

