-- ==== Sys2Proof/Machine/XcvHwloop.lean ====
section
/-! DEFINITION. The hardware-loop instructions (spec/45_xcv_hwloop.md rules R415 to R422). -/

namespace Sys2Proof.Machine

/-- Register set `l`. -/
def State.loop (s : State) (l : BitVec 1) : HwLoop := if l = 0 then s.loop0 else s.loop1

/-- Replace register set `l`. -/
def State.setLoop (s : State) (l : BitVec 1) (v : HwLoop) : State :=
  if l = 0 then { s with loop0 := v } else { s with loop1 := v }

/-- An unsigned immediate counted in words. -/
def uimmWords {n : Nat} (u : BitVec n) : Word := (u ++ 0#2).setWidth 32

/-- A hardware-loop instruction replaces register set `l` and completes. -/
def setLoopTo (l : BitVec 1) (v : HwLoop) (s : State) : Result := ifPulp s (.next (s.retire {} (s.setLoop l v)))

/-- `cv.starti`, R415. -/
def execCvStarti  (l : BitVec 1) (uimmL : BitVec 12) (s : State) : Result :=
  setLoopTo l { s.loop l with start := wordAddr (s.pc + uimmWords uimmL) } s

/-- `cv.start`, R416. -/
def execCvStart  (l : BitVec 1) (rs1 : Reg) (s : State) : Result :=
  setLoopTo l { s.loop l with start := wordAddr (s.reg rs1) } s

/-- `cv.endi`, R417. -/
def execCvEndi  (l : BitVec 1) (uimmL : BitVec 12) (s : State) : Result :=
  setLoopTo l { s.loop l with stop := wordAddr (s.pc + uimmWords uimmL) } s

/-- `cv.end`, R418. -/
def execCvEnd  (l : BitVec 1) (rs1 : Reg) (s : State) : Result :=
  setLoopTo l { s.loop l with stop := wordAddr (s.reg rs1) } s

/-- `cv.counti`, R419. -/
def execCvCounti  (l : BitVec 1) (uimmL : BitVec 12) (s : State) : Result :=
  setLoopTo l { s.loop l with count := uimmL.setWidth 32 } s

/-- `cv.count`, R420. -/
def execCvCount  (l : BitVec 1) (rs1 : Reg) (s : State) : Result := setLoopTo l { s.loop l with count := s.reg rs1 } s

/-- `cv.setupi`, R421. -/
def execCvSetupi  (l : BitVec 1) (uimmL : BitVec 12) (uimmS : BitVec 5) (s : State) : Result :=
  setLoopTo l { start := wordAddr (s.pc + 4), stop := wordAddr (s.pc + uimmWords uimmS), count := uimmL.setWidth 32 } s

/-- `cv.setup`, R422. -/
def execCvSetup  (l : BitVec 1) (rs1 : Reg) (uimmL : BitVec 12) (s : State) : Result :=
  setLoopTo l { start := wordAddr (s.pc + 4), stop := wordAddr (s.pc + uimmWords uimmL), count := s.reg rs1 } s

end Sys2Proof.Machine
end

