-- ==== Sys2Proof/Machine/XcvMac.lean ====
section
/-! DEFINITION. Xcv multiply-accumulate (spec/47_xcv_mac.md rules R511 to R528). -/

namespace Sys2Proof.Machine

/-- `cv.muluN`, R511. -/
def execCvMuluN  (rd rs1 rs2 : Reg) (is3 : BitVec 5) (s : State) : Result :=
  xcv rd ((mulHalfU (loHalf (s.reg rs1)) (loHalf (s.reg rs2))) >>> is3.toNat) s

/-- `cv.mulhhuN`, R512. -/
def execCvMulhhuN  (rd rs1 rs2 : Reg) (is3 : BitVec 5) (s : State) : Result :=
  xcv rd ((mulHalfU (hiHalf (s.reg rs1)) (hiHalf (s.reg rs2))) >>> is3.toNat) s

/-- `cv.mulsN`, R513. -/
def execCvMulsN  (rd rs1 rs2 : Reg) (is3 : BitVec 5) (s : State) : Result :=
  xcv rd ((mulHalfS (loHalf (s.reg rs1)) (loHalf (s.reg rs2))).sshiftRight is3.toNat) s

/-- `cv.mulhhsN`, R514. -/
def execCvMulhhsN  (rd rs1 rs2 : Reg) (is3 : BitVec 5) (s : State) : Result :=
  xcv rd ((mulHalfS (hiHalf (s.reg rs1)) (hiHalf (s.reg rs2))).sshiftRight is3.toNat) s

/-- `cv.muluRN`, R515. -/
def execCvMuluRN  (rd rs1 rs2 : Reg) (is3 : BitVec 5) (s : State) : Result :=
  xcv rd ((mulHalfU (loHalf (s.reg rs1)) (loHalf (s.reg rs2)) + roundConst is3.toNat) >>> is3.toNat) s

/-- `cv.mulhhuRN`, R516. -/
def execCvMulhhuRN  (rd rs1 rs2 : Reg) (is3 : BitVec 5) (s : State) : Result :=
  xcv rd ((mulHalfU (hiHalf (s.reg rs1)) (hiHalf (s.reg rs2)) + roundConst is3.toNat) >>> is3.toNat) s

/-- `cv.mulsRN`, R517. -/
def execCvMulsRN  (rd rs1 rs2 : Reg) (is3 : BitVec 5) (s : State) : Result :=
  xcv rd ((mulHalfS (loHalf (s.reg rs1)) (loHalf (s.reg rs2)) + roundConst is3.toNat).sshiftRight is3.toNat) s

/-- `cv.mulhhsRN`, R518. -/
def execCvMulhhsRN  (rd rs1 rs2 : Reg) (is3 : BitVec 5) (s : State) : Result :=
  xcv rd ((mulHalfS (hiHalf (s.reg rs1)) (hiHalf (s.reg rs2)) + roundConst is3.toNat).sshiftRight is3.toNat) s

/-- `cv.macuN`, R519. -/
def execCvMacuN  (rd rs1 rs2 : Reg) (is3 : BitVec 5) (s : State) : Result :=
  xcv rd ((mulHalfU (loHalf (s.reg rs1)) (loHalf (s.reg rs2)) + s.reg rd) >>> is3.toNat) s

/-- `cv.machhuN`, R520. -/
def execCvMachhuN  (rd rs1 rs2 : Reg) (is3 : BitVec 5) (s : State) : Result :=
  xcv rd ((mulHalfU (hiHalf (s.reg rs1)) (hiHalf (s.reg rs2)) + s.reg rd) >>> is3.toNat) s

/-- `cv.macsN`, R521. -/
def execCvMacsN  (rd rs1 rs2 : Reg) (is3 : BitVec 5) (s : State) : Result :=
  xcv rd ((mulHalfS (loHalf (s.reg rs1)) (loHalf (s.reg rs2)) + s.reg rd).sshiftRight is3.toNat) s

/-- `cv.machhsN`, R522. -/
def execCvMachhsN  (rd rs1 rs2 : Reg) (is3 : BitVec 5) (s : State) : Result :=
  xcv rd ((mulHalfS (hiHalf (s.reg rs1)) (hiHalf (s.reg rs2)) + s.reg rd).sshiftRight is3.toNat) s

/-- `cv.macuRN`, R523. -/
def execCvMacuRN  (rd rs1 rs2 : Reg) (is3 : BitVec 5) (s : State) : Result :=
  xcv rd ((mulHalfU (loHalf (s.reg rs1)) (loHalf (s.reg rs2)) + s.reg rd + roundConst is3.toNat) >>> is3.toNat) s

/-- `cv.machhuRN`, R524. -/
def execCvMachhuRN  (rd rs1 rs2 : Reg) (is3 : BitVec 5) (s : State) : Result :=
  xcv rd ((mulHalfU (hiHalf (s.reg rs1)) (hiHalf (s.reg rs2)) + s.reg rd + roundConst is3.toNat) >>> is3.toNat) s

/-- `cv.macsRN`, R525. -/
def execCvMacsRN  (rd rs1 rs2 : Reg) (is3 : BitVec 5) (s : State) : Result :=
  xcv rd ((mulHalfS (loHalf (s.reg rs1)) (loHalf (s.reg rs2)) + s.reg rd + roundConst is3.toNat).sshiftRight is3.toNat) s

/-- `cv.machhsRN`, R526. -/
def execCvMachhsRN  (rd rs1 rs2 : Reg) (is3 : BitVec 5) (s : State) : Result :=
  xcv rd ((mulHalfS (hiHalf (s.reg rs1)) (hiHalf (s.reg rs2)) + s.reg rd + roundConst is3.toNat).sshiftRight is3.toNat) s

/-- `cv.mac`, R527. -/
def execCvMac  (rd rs1 rs2 : Reg) (s : State) : Result := xcv rd (s.reg rd + s.reg rs1 * s.reg rs2) s

/-- `cv.msu`, R528. -/
def execCvMsu  (rd rs1 rs2 : Reg) (s : State) : Result := xcv rd (s.reg rd - s.reg rs1 * s.reg rs2) s

end Sys2Proof.Machine
end

