-- ==== Sys2Proof/Machine/XcvMem.lean ====
section
/-! DEFINITION. Xcv loads and stores and cv.elw (spec/44_xcv_mem_elw.md rules R372 to R400). -/

namespace Sys2Proof.Machine

/-- A post-incremented load (R371): the loaded value wins when `rd` is the base register. -/
def postLoad (rd rs1 : Reg) (off v : Word) (s : State) : Result :=
  ifPulp s (.next (s.retire { load := true } ((s.setReg rs1 (s.reg rs1 + off)).setReg rd v)))

/-- A post-incremented store (R371), `t` being the state with the bytes stored. -/
def postStore (rs1 : Reg) (off : Word) (t : State) (s : State) : Result :=
  ifPulp s (.next (s.retire { store := true } (t.setReg rs1 (s.reg rs1 + off))))

/-- While the Event Unit withholds the response the instruction `w` waits, and the hart sleeps unless a debug request, Debug Mode, a
single step or a trigger match keeps it awake (R400, 60_exceptions R881). -/
def State.waitForEvent (s : State) (w : EventRead) : State :=
  { s with
    elwWaiting := some w
    sleeping := !(s.debugRequested || s.debugMode || s.stepPhase == .armed || s.triggerAt s.pc) }

/-- The event load (R400): exists only with COREV_CLUSTER = 1. -/
def eventLoad (w : EventRead) (s : State) : Result :=
  if !s.cfg.corevCluster then illegal s
  else if s.dataStall then .next (s.waitForEvent w)
  else loadTo 4 w.rd (s.loadWord (s.addr w.rs1 w.imm)) s

/-- `cv.lb`, R372. -/
def execCvLbPostImm  (rd rs1 : Reg) (imm : BitVec 12) (s : State) : Result :=
  postLoad rd rs1 (sext12 imm) ((s.loadByte (s.reg rs1)).signExtend 32) s

/-- `cv.lbu`, R373. -/
def execCvLbuPostImm  (rd rs1 : Reg) (imm : BitVec 12) (s : State) : Result :=
  postLoad rd rs1 (sext12 imm) ((s.loadByte (s.reg rs1)).setWidth 32) s

/-- `cv.lh`, R374. -/
def execCvLhPostImm  (rd rs1 : Reg) (imm : BitVec 12) (s : State) : Result :=
  postLoad rd rs1 (sext12 imm) ((s.loadHalf (s.reg rs1)).signExtend 32) s

/-- `cv.lhu`, R375. -/
def execCvLhuPostImm  (rd rs1 : Reg) (imm : BitVec 12) (s : State) : Result :=
  postLoad rd rs1 (sext12 imm) ((s.loadHalf (s.reg rs1)).setWidth 32) s

/-- `cv.lw`, R376. -/
def execCvLwPostImm  (rd rs1 : Reg) (imm : BitVec 12) (s : State) : Result :=
  postLoad rd rs1 (sext12 imm) (s.loadWord (s.reg rs1)) s

/-- `cv.lb`, R377. -/
def execCvLbPostReg  (rd rs1 rs2 : Reg) (s : State) : Result :=
  postLoad rd rs1 (s.reg rs2) ((s.loadByte (s.reg rs1)).signExtend 32) s

/-- `cv.lbu`, R378. -/
def execCvLbuPostReg  (rd rs1 rs2 : Reg) (s : State) : Result :=
  postLoad rd rs1 (s.reg rs2) ((s.loadByte (s.reg rs1)).setWidth 32) s

/-- `cv.lh`, R379. -/
def execCvLhPostReg  (rd rs1 rs2 : Reg) (s : State) : Result :=
  postLoad rd rs1 (s.reg rs2) ((s.loadHalf (s.reg rs1)).signExtend 32) s

/-- `cv.lhu`, R380. -/
def execCvLhuPostReg  (rd rs1 rs2 : Reg) (s : State) : Result :=
  postLoad rd rs1 (s.reg rs2) ((s.loadHalf (s.reg rs1)).setWidth 32) s

/-- `cv.lw`, R381. -/
def execCvLwPostReg  (rd rs1 rs2 : Reg) (s : State) : Result := postLoad rd rs1 (s.reg rs2) (s.loadWord (s.reg rs1)) s

/-- `cv.lb`, R382. -/
def execCvLbIdx  (rd rs1 rs2 : Reg) (s : State) : Result :=
  ifPulp s (loadTo 4 rd ((s.loadByte (s.addrReg rs1 rs2)).signExtend 32) s)

/-- `cv.lbu`, R383. -/
def execCvLbuIdx  (rd rs1 rs2 : Reg) (s : State) : Result :=
  ifPulp s (loadTo 4 rd ((s.loadByte (s.addrReg rs1 rs2)).setWidth 32) s)

/-- `cv.lh`, R384. -/
def execCvLhIdx  (rd rs1 rs2 : Reg) (s : State) : Result :=
  ifPulp s (loadTo 4 rd ((s.loadHalf (s.addrReg rs1 rs2)).signExtend 32) s)

/-- `cv.lhu`, R385. -/
def execCvLhuIdx  (rd rs1 rs2 : Reg) (s : State) : Result :=
  ifPulp s (loadTo 4 rd ((s.loadHalf (s.addrReg rs1 rs2)).setWidth 32) s)

/-- `cv.lw`, R386. -/
def execCvLwIdx  (rd rs1 rs2 : Reg) (s : State) : Result := ifPulp s (loadTo 4 rd (s.loadWord (s.addrReg rs1 rs2)) s)

/-- `cv.sb`, R387. -/
def execCvSbPostImm  (rs2 rs1 : Reg) (imm : BitVec 12) (s : State) : Result :=
  postStore rs1 (sext12 imm) (s.storeByte (s.reg rs1) ((s.reg rs2).extractLsb' 0 8)) s

/-- `cv.sh`, R388. -/
def execCvShPostImm  (rs2 rs1 : Reg) (imm : BitVec 12) (s : State) : Result :=
  postStore rs1 (sext12 imm) (s.storeHalf (s.reg rs1) ((s.reg rs2).extractLsb' 0 16)) s

/-- `cv.sw`, R389. -/
def execCvSwPostImm  (rs2 rs1 : Reg) (imm : BitVec 12) (s : State) : Result :=
  postStore rs1 (sext12 imm) (s.storeWord (s.reg rs1) (s.reg rs2)) s

/-- `cv.sb`, R390. -/
def execCvSbPostReg  (rs2 rs1 rs3 : Reg) (s : State) : Result :=
  postStore rs1 (s.reg rs3) (s.storeByte (s.reg rs1) ((s.reg rs2).extractLsb' 0 8)) s

/-- `cv.sh`, R391. -/
def execCvShPostReg  (rs2 rs1 rs3 : Reg) (s : State) : Result :=
  postStore rs1 (s.reg rs3) (s.storeHalf (s.reg rs1) ((s.reg rs2).extractLsb' 0 16)) s

/-- `cv.sw`, R392. -/
def execCvSwPostReg  (rs2 rs1 rs3 : Reg) (s : State) : Result :=
  postStore rs1 (s.reg rs3) (s.storeWord (s.reg rs1) (s.reg rs2)) s

/-- `cv.sb`, R393. -/
def execCvSbIdx  (rs2 rs1 rs3 : Reg) (s : State) : Result :=
  ifPulp s (storeDone 4 (s.storeByte (s.addrReg rs1 rs3) ((s.reg rs2).extractLsb' 0 8)) s)

/-- `cv.sh`, R394. -/
def execCvShIdx  (rs2 rs1 rs3 : Reg) (s : State) : Result :=
  ifPulp s (storeDone 4 (s.storeHalf (s.addrReg rs1 rs3) ((s.reg rs2).extractLsb' 0 16)) s)

/-- `cv.sw`, R395. -/
def execCvSwIdx  (rs2 rs1 rs3 : Reg) (s : State) : Result :=
  ifPulp s (storeDone 4 (s.storeWord (s.addrReg rs1 rs3) (s.reg rs2)) s)

/-- `cv.elw`, R400. -/
def execCvElw  (rd rs1 : Reg) (imm : BitVec 12) (s : State) : Result := eventLoad { rd := rd, rs1 := rs1, imm := imm } s

end Sys2Proof.Machine
end

