-- ==== Sys2Proof/Machine/XcvSimdAlu.lean ====
section
/-! DEFINITION. Xcv SIMD ALU and bit manipulation (spec/48_xcv_simd_alu.md rules R546 to R637). -/

namespace Sys2Proof.Machine

/-- R558: half of the wrapped sum, its sign bit replicated. -/
def elemAvg {n : Nat} (x y : BitVec n) : BitVec n := (x + y).sshiftRight 1

/-- R564. -/
def elemAvgu {n : Nat} (x y : BitVec n) : BitVec n := (x + y) >>> 1

/-- R570. -/
def elemMin {n : Nat} (x y : BitVec n) : BitVec n := if x.slt y then x else y

/-- R576. -/
def elemMinu {n : Nat} (x y : BitVec n) : BitVec n := if x.ult y then x else y

/-- R582. -/
def elemMax {n : Nat} (x y : BitVec n) : BitVec n := if y.slt x then x else y

/-- R588. -/
def elemMaxu {n : Nat} (x y : BitVec n) : BitVec n := if y.ult x then x else y

/-- The shift amount: the low `k` bits of the second operand's element (R543; 92 D14, notes/assumptions/40.md). -/
def elemAmount {n : Nat} (k : Nat) (y : BitVec n) : Nat := (y.extractLsb' 0 k).toNat

/-- R594. -/
def elemSrl {n : Nat} (k : Nat) (x y : BitVec n) : BitVec n := x >>> elemAmount k y

/-- R600. -/
def elemSra {n : Nat} (k : Nat) (x y : BitVec n) : BitVec n := x.sshiftRight (elemAmount k y)

/-- R606. -/
def elemSll {n : Nat} (k : Nat) (x y : BitVec n) : BitVec n := x <<< elemAmount k y

/-- R630. -/
def elemAbs {n : Nat} (x : BitVec n) : BitVec n := if x.slt 0 then -x else x

/-- `d` with the halfword that `k` names replaced (R636). -/
def insertHalf (d : Word) (k : BitVec 1) (v : BitVec 16) : Word :=
  if k = 1 then packH v (loHalf d) else packH (hiHalf d) v

/-- `d` with the byte that `k` names replaced (R637). -/
def insertByte (d : Word) (k : BitVec 2) (v : Byte) : Word :=
  packB (if k = 3 then v else byteOf d 3) (if k = 2 then v else byteOf d 2) (if k = 1 then v else byteOf d 1)
    (if k = 0 then v else byteOf d 0)

/-- `cv.add.h`, R546. -/
def execCvAddH  (rd rs1 rs2 : Reg) (s : State) : Result := xcv rd (zipH (· + ·) (s.reg rs1) (s.reg rs2)) s

/-- `cv.add.sc.h`, R547. -/
def execCvAddScH  (rd rs1 rs2 : Reg) (s : State) : Result := xcv rd (zipH (· + ·) (s.reg rs1) (scH (s.reg rs2))) s

/-- `cv.add.sci.h`, R548. -/
def execCvAddSciH  (rd rs1 : Reg) (imm6 : BitVec 6) (s : State) : Result :=
  xcv rd (zipH (· + ·) (s.reg rs1) (sciH imm6)) s

/-- `cv.add.b`, R549. -/
def execCvAddB  (rd rs1 rs2 : Reg) (s : State) : Result := xcv rd (zipB (· + ·) (s.reg rs1) (s.reg rs2)) s

/-- `cv.add.sc.b`, R550. -/
def execCvAddScB  (rd rs1 rs2 : Reg) (s : State) : Result := xcv rd (zipB (· + ·) (s.reg rs1) (scB (s.reg rs2))) s

/-- `cv.add.sci.b`, R551. -/
def execCvAddSciB  (rd rs1 : Reg) (imm6 : BitVec 6) (s : State) : Result :=
  xcv rd (zipB (· + ·) (s.reg rs1) (sciB imm6)) s

/-- `cv.sub.h`, R552. -/
def execCvSubH  (rd rs1 rs2 : Reg) (s : State) : Result := xcv rd (zipH (· - ·) (s.reg rs1) (s.reg rs2)) s

/-- `cv.sub.sc.h`, R553. -/
def execCvSubScH  (rd rs1 rs2 : Reg) (s : State) : Result := xcv rd (zipH (· - ·) (s.reg rs1) (scH (s.reg rs2))) s

/-- `cv.sub.sci.h`, R554. -/
def execCvSubSciH  (rd rs1 : Reg) (imm6 : BitVec 6) (s : State) : Result :=
  xcv rd (zipH (· - ·) (s.reg rs1) (sciH imm6)) s

/-- `cv.sub.b`, R555. -/
def execCvSubB  (rd rs1 rs2 : Reg) (s : State) : Result := xcv rd (zipB (· - ·) (s.reg rs1) (s.reg rs2)) s

/-- `cv.sub.sc.b`, R556. -/
def execCvSubScB  (rd rs1 rs2 : Reg) (s : State) : Result := xcv rd (zipB (· - ·) (s.reg rs1) (scB (s.reg rs2))) s

/-- `cv.sub.sci.b`, R557. -/
def execCvSubSciB  (rd rs1 : Reg) (imm6 : BitVec 6) (s : State) : Result :=
  xcv rd (zipB (· - ·) (s.reg rs1) (sciB imm6)) s

/-- `cv.avg.h`, R558. -/
def execCvAvgH  (rd rs1 rs2 : Reg) (s : State) : Result := xcv rd (zipH elemAvg (s.reg rs1) (s.reg rs2)) s

/-- `cv.avg.sc.h`, R559. -/
def execCvAvgScH  (rd rs1 rs2 : Reg) (s : State) : Result := xcv rd (zipH elemAvg (s.reg rs1) (scH (s.reg rs2))) s

/-- `cv.avg.sci.h`, R560. -/
def execCvAvgSciH  (rd rs1 : Reg) (imm6 : BitVec 6) (s : State) : Result :=
  xcv rd (zipH elemAvg (s.reg rs1) (sciH imm6)) s

/-- `cv.avg.b`, R561. -/
def execCvAvgB  (rd rs1 rs2 : Reg) (s : State) : Result := xcv rd (zipB elemAvg (s.reg rs1) (s.reg rs2)) s

/-- `cv.avg.sc.b`, R562. -/
def execCvAvgScB  (rd rs1 rs2 : Reg) (s : State) : Result := xcv rd (zipB elemAvg (s.reg rs1) (scB (s.reg rs2))) s

/-- `cv.avg.sci.b`, R563. -/
def execCvAvgSciB  (rd rs1 : Reg) (imm6 : BitVec 6) (s : State) : Result :=
  xcv rd (zipB elemAvg (s.reg rs1) (sciB imm6)) s

/-- `cv.avgu.h`, R564. -/
def execCvAvguH  (rd rs1 rs2 : Reg) (s : State) : Result := xcv rd (zipH elemAvgu (s.reg rs1) (s.reg rs2)) s

/-- `cv.avgu.sc.h`, R565. -/
def execCvAvguScH  (rd rs1 rs2 : Reg) (s : State) : Result := xcv rd (zipH elemAvgu (s.reg rs1) (scH (s.reg rs2))) s

/-- `cv.avgu.sci.h`, R566. -/
def execCvAvguSciH  (rd rs1 : Reg) (imm6 : BitVec 6) (s : State) : Result :=
  xcv rd (zipH elemAvgu (s.reg rs1) (sciuH imm6)) s

/-- `cv.avgu.b`, R567. -/
def execCvAvguB  (rd rs1 rs2 : Reg) (s : State) : Result := xcv rd (zipB elemAvgu (s.reg rs1) (s.reg rs2)) s

/-- `cv.avgu.sc.b`, R568. -/
def execCvAvguScB  (rd rs1 rs2 : Reg) (s : State) : Result := xcv rd (zipB elemAvgu (s.reg rs1) (scB (s.reg rs2))) s

/-- `cv.avgu.sci.b`, R569. -/
def execCvAvguSciB  (rd rs1 : Reg) (imm6 : BitVec 6) (s : State) : Result :=
  xcv rd (zipB elemAvgu (s.reg rs1) (sciuB imm6)) s

/-- `cv.min.h`, R570. -/
def execCvMinH  (rd rs1 rs2 : Reg) (s : State) : Result := xcv rd (zipH elemMin (s.reg rs1) (s.reg rs2)) s

/-- `cv.min.sc.h`, R571. -/
def execCvMinScH  (rd rs1 rs2 : Reg) (s : State) : Result := xcv rd (zipH elemMin (s.reg rs1) (scH (s.reg rs2))) s

/-- `cv.min.sci.h`, R572. -/
def execCvMinSciH  (rd rs1 : Reg) (imm6 : BitVec 6) (s : State) : Result :=
  xcv rd (zipH elemMin (s.reg rs1) (sciH imm6)) s

/-- `cv.min.b`, R573. -/
def execCvMinB  (rd rs1 rs2 : Reg) (s : State) : Result := xcv rd (zipB elemMin (s.reg rs1) (s.reg rs2)) s

/-- `cv.min.sc.b`, R574. -/
def execCvMinScB  (rd rs1 rs2 : Reg) (s : State) : Result := xcv rd (zipB elemMin (s.reg rs1) (scB (s.reg rs2))) s

/-- `cv.min.sci.b`, R575. -/
def execCvMinSciB  (rd rs1 : Reg) (imm6 : BitVec 6) (s : State) : Result :=
  xcv rd (zipB elemMin (s.reg rs1) (sciB imm6)) s

/-- `cv.minu.h`, R576. -/
def execCvMinuH  (rd rs1 rs2 : Reg) (s : State) : Result := xcv rd (zipH elemMinu (s.reg rs1) (s.reg rs2)) s

/-- `cv.minu.sc.h`, R577. -/
def execCvMinuScH  (rd rs1 rs2 : Reg) (s : State) : Result := xcv rd (zipH elemMinu (s.reg rs1) (scH (s.reg rs2))) s

/-- `cv.minu.sci.h`, R578. -/
def execCvMinuSciH  (rd rs1 : Reg) (imm6 : BitVec 6) (s : State) : Result :=
  xcv rd (zipH elemMinu (s.reg rs1) (sciuH imm6)) s

/-- `cv.minu.b`, R579. -/
def execCvMinuB  (rd rs1 rs2 : Reg) (s : State) : Result := xcv rd (zipB elemMinu (s.reg rs1) (s.reg rs2)) s

/-- `cv.minu.sc.b`, R580. -/
def execCvMinuScB  (rd rs1 rs2 : Reg) (s : State) : Result := xcv rd (zipB elemMinu (s.reg rs1) (scB (s.reg rs2))) s

/-- `cv.minu.sci.b`, R581. -/
def execCvMinuSciB  (rd rs1 : Reg) (imm6 : BitVec 6) (s : State) : Result :=
  xcv rd (zipB elemMinu (s.reg rs1) (sciuB imm6)) s

/-- `cv.max.h`, R582. -/
def execCvMaxH  (rd rs1 rs2 : Reg) (s : State) : Result := xcv rd (zipH elemMax (s.reg rs1) (s.reg rs2)) s

/-- `cv.max.sc.h`, R583. -/
def execCvMaxScH  (rd rs1 rs2 : Reg) (s : State) : Result := xcv rd (zipH elemMax (s.reg rs1) (scH (s.reg rs2))) s

/-- `cv.max.sci.h`, R584. -/
def execCvMaxSciH  (rd rs1 : Reg) (imm6 : BitVec 6) (s : State) : Result :=
  xcv rd (zipH elemMax (s.reg rs1) (sciH imm6)) s

/-- `cv.max.b`, R585. -/
def execCvMaxB  (rd rs1 rs2 : Reg) (s : State) : Result := xcv rd (zipB elemMax (s.reg rs1) (s.reg rs2)) s

/-- `cv.max.sc.b`, R586. -/
def execCvMaxScB  (rd rs1 rs2 : Reg) (s : State) : Result := xcv rd (zipB elemMax (s.reg rs1) (scB (s.reg rs2))) s

/-- `cv.max.sci.b`, R587. -/
def execCvMaxSciB  (rd rs1 : Reg) (imm6 : BitVec 6) (s : State) : Result :=
  xcv rd (zipB elemMax (s.reg rs1) (sciB imm6)) s

/-- `cv.maxu.h`, R588. -/
def execCvMaxuH  (rd rs1 rs2 : Reg) (s : State) : Result := xcv rd (zipH elemMaxu (s.reg rs1) (s.reg rs2)) s

/-- `cv.maxu.sc.h`, R589. -/
def execCvMaxuScH  (rd rs1 rs2 : Reg) (s : State) : Result := xcv rd (zipH elemMaxu (s.reg rs1) (scH (s.reg rs2))) s

/-- `cv.maxu.sci.h`, R590. -/
def execCvMaxuSciH  (rd rs1 : Reg) (imm6 : BitVec 6) (s : State) : Result :=
  xcv rd (zipH elemMaxu (s.reg rs1) (sciuH imm6)) s

/-- `cv.maxu.b`, R591. -/
def execCvMaxuB  (rd rs1 rs2 : Reg) (s : State) : Result := xcv rd (zipB elemMaxu (s.reg rs1) (s.reg rs2)) s

/-- `cv.maxu.sc.b`, R592. -/
def execCvMaxuScB  (rd rs1 rs2 : Reg) (s : State) : Result := xcv rd (zipB elemMaxu (s.reg rs1) (scB (s.reg rs2))) s

/-- `cv.maxu.sci.b`, R593. -/
def execCvMaxuSciB  (rd rs1 : Reg) (imm6 : BitVec 6) (s : State) : Result :=
  xcv rd (zipB elemMaxu (s.reg rs1) (sciuB imm6)) s

/-- `cv.srl.h`, R594. -/
def execCvSrlH  (rd rs1 rs2 : Reg) (s : State) : Result := xcv rd (zipH (elemSrl 4) (s.reg rs1) (s.reg rs2)) s

/-- `cv.srl.sc.h`, R595. -/
def execCvSrlScH  (rd rs1 rs2 : Reg) (s : State) : Result := xcv rd (zipH (elemSrl 4) (s.reg rs1) (scH (s.reg rs2))) s

/-- `cv.srl.sci.h`, R596. -/
def execCvSrlSciH  (rd rs1 : Reg) (imm6 : BitVec 6) (s : State) : Result :=
  xcv rd (zipH (elemSrl 4) (s.reg rs1) (sciuH imm6)) s

/-- `cv.srl.b`, R597. -/
def execCvSrlB  (rd rs1 rs2 : Reg) (s : State) : Result := xcv rd (zipB (elemSrl 3) (s.reg rs1) (s.reg rs2)) s

/-- `cv.srl.sc.b`, R598. -/
def execCvSrlScB  (rd rs1 rs2 : Reg) (s : State) : Result := xcv rd (zipB (elemSrl 3) (s.reg rs1) (scB (s.reg rs2))) s

/-- `cv.srl.sci.b`, R599. -/
def execCvSrlSciB  (rd rs1 : Reg) (imm6 : BitVec 6) (s : State) : Result :=
  xcv rd (zipB (elemSrl 3) (s.reg rs1) (sciuB imm6)) s

/-- `cv.sra.h`, R600. -/
def execCvSraH  (rd rs1 rs2 : Reg) (s : State) : Result := xcv rd (zipH (elemSra 4) (s.reg rs1) (s.reg rs2)) s

/-- `cv.sra.sc.h`, R601. -/
def execCvSraScH  (rd rs1 rs2 : Reg) (s : State) : Result := xcv rd (zipH (elemSra 4) (s.reg rs1) (scH (s.reg rs2))) s

/-- `cv.sra.sci.h`, R602. -/
def execCvSraSciH  (rd rs1 : Reg) (imm6 : BitVec 6) (s : State) : Result :=
  xcv rd (zipH (elemSra 4) (s.reg rs1) (sciuH imm6)) s

/-- `cv.sra.b`, R603. -/
def execCvSraB  (rd rs1 rs2 : Reg) (s : State) : Result := xcv rd (zipB (elemSra 3) (s.reg rs1) (s.reg rs2)) s

/-- `cv.sra.sc.b`, R604. -/
def execCvSraScB  (rd rs1 rs2 : Reg) (s : State) : Result := xcv rd (zipB (elemSra 3) (s.reg rs1) (scB (s.reg rs2))) s

/-- `cv.sra.sci.b`, R605. -/
def execCvSraSciB  (rd rs1 : Reg) (imm6 : BitVec 6) (s : State) : Result :=
  xcv rd (zipB (elemSra 3) (s.reg rs1) (sciuB imm6)) s

/-- `cv.sll.h`, R606. -/
def execCvSllH  (rd rs1 rs2 : Reg) (s : State) : Result := xcv rd (zipH (elemSll 4) (s.reg rs1) (s.reg rs2)) s

/-- `cv.sll.sc.h`, R607. -/
def execCvSllScH  (rd rs1 rs2 : Reg) (s : State) : Result := xcv rd (zipH (elemSll 4) (s.reg rs1) (scH (s.reg rs2))) s

/-- `cv.sll.sci.h`, R608. -/
def execCvSllSciH  (rd rs1 : Reg) (imm6 : BitVec 6) (s : State) : Result :=
  xcv rd (zipH (elemSll 4) (s.reg rs1) (sciuH imm6)) s

/-- `cv.sll.b`, R609. -/
def execCvSllB  (rd rs1 rs2 : Reg) (s : State) : Result := xcv rd (zipB (elemSll 3) (s.reg rs1) (s.reg rs2)) s

/-- `cv.sll.sc.b`, R610. -/
def execCvSllScB  (rd rs1 rs2 : Reg) (s : State) : Result := xcv rd (zipB (elemSll 3) (s.reg rs1) (scB (s.reg rs2))) s

/-- `cv.sll.sci.b`, R611. -/
def execCvSllSciB  (rd rs1 : Reg) (imm6 : BitVec 6) (s : State) : Result :=
  xcv rd (zipB (elemSll 3) (s.reg rs1) (sciuB imm6)) s

/-- `cv.or.h`, R612. -/
def execCvOrH  (rd rs1 rs2 : Reg) (s : State) : Result := xcv rd (zipH (· ||| ·) (s.reg rs1) (s.reg rs2)) s

/-- `cv.or.sc.h`, R613. -/
def execCvOrScH  (rd rs1 rs2 : Reg) (s : State) : Result := xcv rd (zipH (· ||| ·) (s.reg rs1) (scH (s.reg rs2))) s

/-- `cv.or.sci.h`, R614. -/
def execCvOrSciH  (rd rs1 : Reg) (imm6 : BitVec 6) (s : State) : Result :=
  xcv rd (zipH (· ||| ·) (s.reg rs1) (sciH imm6)) s

/-- `cv.or.b`, R615. -/
def execCvOrB  (rd rs1 rs2 : Reg) (s : State) : Result := xcv rd (zipB (· ||| ·) (s.reg rs1) (s.reg rs2)) s

/-- `cv.or.sc.b`, R616. -/
def execCvOrScB  (rd rs1 rs2 : Reg) (s : State) : Result := xcv rd (zipB (· ||| ·) (s.reg rs1) (scB (s.reg rs2))) s

/-- `cv.or.sci.b`, R617. -/
def execCvOrSciB  (rd rs1 : Reg) (imm6 : BitVec 6) (s : State) : Result :=
  xcv rd (zipB (· ||| ·) (s.reg rs1) (sciB imm6)) s

/-- `cv.xor.h`, R618. -/
def execCvXorH  (rd rs1 rs2 : Reg) (s : State) : Result := xcv rd (zipH (· ^^^ ·) (s.reg rs1) (s.reg rs2)) s

/-- `cv.xor.sc.h`, R619. -/
def execCvXorScH  (rd rs1 rs2 : Reg) (s : State) : Result := xcv rd (zipH (· ^^^ ·) (s.reg rs1) (scH (s.reg rs2))) s

/-- `cv.xor.sci.h`, R620. -/
def execCvXorSciH  (rd rs1 : Reg) (imm6 : BitVec 6) (s : State) : Result :=
  xcv rd (zipH (· ^^^ ·) (s.reg rs1) (sciH imm6)) s

/-- `cv.xor.b`, R621. -/
def execCvXorB  (rd rs1 rs2 : Reg) (s : State) : Result := xcv rd (zipB (· ^^^ ·) (s.reg rs1) (s.reg rs2)) s

/-- `cv.xor.sc.b`, R622. -/
def execCvXorScB  (rd rs1 rs2 : Reg) (s : State) : Result := xcv rd (zipB (· ^^^ ·) (s.reg rs1) (scB (s.reg rs2))) s

/-- `cv.xor.sci.b`, R623. -/
def execCvXorSciB  (rd rs1 : Reg) (imm6 : BitVec 6) (s : State) : Result :=
  xcv rd (zipB (· ^^^ ·) (s.reg rs1) (sciB imm6)) s

/-- `cv.and.h`, R624. -/
def execCvAndH  (rd rs1 rs2 : Reg) (s : State) : Result := xcv rd (zipH (· &&& ·) (s.reg rs1) (s.reg rs2)) s

/-- `cv.and.sc.h`, R625. -/
def execCvAndScH  (rd rs1 rs2 : Reg) (s : State) : Result := xcv rd (zipH (· &&& ·) (s.reg rs1) (scH (s.reg rs2))) s

/-- `cv.and.sci.h`, R626. -/
def execCvAndSciH  (rd rs1 : Reg) (imm6 : BitVec 6) (s : State) : Result :=
  xcv rd (zipH (· &&& ·) (s.reg rs1) (sciH imm6)) s

/-- `cv.and.b`, R627. -/
def execCvAndB  (rd rs1 rs2 : Reg) (s : State) : Result := xcv rd (zipB (· &&& ·) (s.reg rs1) (s.reg rs2)) s

/-- `cv.and.sc.b`, R628. -/
def execCvAndScB  (rd rs1 rs2 : Reg) (s : State) : Result := xcv rd (zipB (· &&& ·) (s.reg rs1) (scB (s.reg rs2))) s

/-- `cv.and.sci.b`, R629. -/
def execCvAndSciB  (rd rs1 : Reg) (imm6 : BitVec 6) (s : State) : Result :=
  xcv rd (zipB (· &&& ·) (s.reg rs1) (sciB imm6)) s

/-- `cv.abs.h`, R630. -/
def execCvAbsH  (rd rs1 : Reg) (s : State) : Result :=
  xcv rd (packH (elemAbs (hiHalf (s.reg rs1))) (elemAbs (loHalf (s.reg rs1)))) s

/-- `cv.abs.b`, R631. -/
def execCvAbsB  (rd rs1 : Reg) (s : State) : Result :=
  xcv rd (packB (elemAbs (byteOf (s.reg rs1) 3)) (elemAbs (byteOf (s.reg rs1) 2)) (elemAbs (byteOf (s.reg rs1) 1)) (elemAbs (byteOf (s.reg rs1) 0))) s

/-- `cv.extract.h`, R632. -/
def execCvExtractH  (rd rs1 : Reg) (imm6 : BitVec 6) (s : State) : Result :=
  xcv rd ((halfSel (s.reg rs1) (imm6.extractLsb' 0 1)).signExtend 32) s

/-- `cv.extract.b`, R633. -/
def execCvExtractB  (rd rs1 : Reg) (imm6 : BitVec 6) (s : State) : Result :=
  xcv rd ((byteSel (s.reg rs1) (imm6.extractLsb' 0 2)).signExtend 32) s

/-- `cv.extractu.h`, R634. -/
def execCvExtractuH  (rd rs1 : Reg) (imm6 : BitVec 6) (s : State) : Result :=
  xcv rd ((halfSel (s.reg rs1) (imm6.extractLsb' 0 1)).setWidth 32) s

/-- `cv.extractu.b`, R635. -/
def execCvExtractuB  (rd rs1 : Reg) (imm6 : BitVec 6) (s : State) : Result :=
  xcv rd ((byteSel (s.reg rs1) (imm6.extractLsb' 0 2)).setWidth 32) s

/-- `cv.insert.h`, R636. -/
def execCvInsertH  (rd rs1 : Reg) (imm6 : BitVec 6) (s : State) : Result :=
  xcv rd (insertHalf (s.reg rd) (imm6.extractLsb' 0 1) (loHalf (s.reg rs1))) s

/-- `cv.insert.b`, R637. -/
def execCvInsertB  (rd rs1 : Reg) (imm6 : BitVec 6) (s : State) : Result :=
  xcv rd (insertByte (s.reg rd) (imm6.extractLsb' 0 2) (byteOf (s.reg rs1) 0)) s

end Sys2Proof.Machine
end

