-- ==== Sys2Proof/Machine/XcvSimdDot.lean ====
section
/-! DEFINITION. Xcv SIMD dot products, shuffles, packing, comparisons and complex numbers (spec/49 rules R664 to R808). -/

namespace Sys2Proof.Machine

/-- Product of two unsigned elements. -/
def mulUU {n : Nat} (x y : BitVec n) : Word := x.setWidth 32 * y.setWidth 32

/-- Product of an unsigned and a signed element. -/
def mulUS {n : Nat} (x y : BitVec n) : Word := x.setWidth 32 * y.signExtend 32

/-- Product of two signed elements. -/
def mulSS {n : Nat} (x y : BitVec n) : Word := x.signExtend 32 * y.signExtend 32

/-- The sum of the element products of two halfword vectors, modulo 2^32 (R661). -/
def dotH (m : BitVec 16 → BitVec 16 → Word) (a b : Word) : Word :=
  m (loHalf a) (loHalf b) + m (hiHalf a) (hiHalf b)

/-- The same for byte vectors. -/
def dotB (m : Byte → Byte → Word) (a b : Word) : Word :=
  m (byteOf a 0) (byteOf b 0) + m (byteOf a 1) (byteOf b 1) + m (byteOf a 2) (byteOf b 2) + m (byteOf a 3) (byteOf b 3)

/-- All ones when a comparison holds, else zero (R714). -/
def elemMask {n : Nat} (p : Bool) : BitVec n := if p then -1 else 0

def elemEq {n : Nat} (x y : BitVec n) : BitVec n := elemMask (x == y)

def elemNe {n : Nat} (x y : BitVec n) : BitVec n := elemMask (x != y)

def elemGt {n : Nat} (x y : BitVec n) : BitVec n := elemMask (y.slt x)

def elemGe {n : Nat} (x y : BitVec n) : BitVec n := elemMask (y.sle x)

def elemLt {n : Nat} (x y : BitVec n) : BitVec n := elemMask (x.slt y)

def elemLe {n : Nat} (x y : BitVec n) : BitVec n := elemMask (x.sle y)

def elemGtu {n : Nat} (x y : BitVec n) : BitVec n := elemMask (y.ult x)

def elemGeu {n : Nat} (x y : BitVec n) : BitVec n := elemMask (y.ule x)

def elemLtu {n : Nat} (x y : BitVec n) : BitVec n := elemMask (x.ult y)

def elemLeu {n : Nat} (x y : BitVec n) : BitVec n := elemMask (x.ule y)

/-- The source of a shuffled element: `rs1` or the old `rd` (R707). -/
def pick (p : Bool) (a d : Word) : Word := if p then a else d

/-- Real part of a complex product, modulo 2^32 (R780, R790; 92 D8, notes/assumptions/35.md). -/
def cplxReal (a b : Word) : Word := mulSS (loHalf a) (loHalf b) - mulSS (hiHalf a) (hiHalf b)

/-- Imaginary part, modulo 2^32 (R780, R794; 92 D8, notes/assumptions/35.md). -/
def cplxImag (a b : Word) : Word := mulSS (loHalf a) (hiHalf b) + mulSS (hiHalf a) (loHalf b)

/-- A product shifted right arithmetically, its low halfword (R780). -/
def cplxShift (k : Nat) (t : Word) : BitVec 16 := loHalf (t.sshiftRight k)

/-- `cv.dotup.h`, R664. -/
def execCvDotupH  (rd rs1 rs2 : Reg) (s : State) : Result := xcv rd (dotH mulUU (s.reg rs1) (s.reg rs2)) s

/-- `cv.dotup.sc.h`, R665. -/
def execCvDotupScH  (rd rs1 rs2 : Reg) (s : State) : Result := xcv rd (dotH mulUU (s.reg rs1) (scH (s.reg rs2))) s

/-- `cv.dotup.sci.h`, R666. -/
def execCvDotupSciH  (rd rs1 : Reg) (imm6 : BitVec 6) (s : State) : Result :=
  xcv rd (dotH mulUU (s.reg rs1) (sciDH s.cfg imm6)) s

/-- `cv.dotup.b`, R667. -/
def execCvDotupB  (rd rs1 rs2 : Reg) (s : State) : Result := xcv rd (dotB mulUU (s.reg rs1) (s.reg rs2)) s

/-- `cv.dotup.sc.b`, R668. -/
def execCvDotupScB  (rd rs1 rs2 : Reg) (s : State) : Result := xcv rd (dotB mulUU (s.reg rs1) (scB (s.reg rs2))) s

/-- `cv.dotup.sci.b`, R669. -/
def execCvDotupSciB  (rd rs1 : Reg) (imm6 : BitVec 6) (s : State) : Result :=
  xcv rd (dotB mulUU (s.reg rs1) (sciDB s.cfg imm6)) s

/-- `cv.dotusp.h`, R670. -/
def execCvDotuspH  (rd rs1 rs2 : Reg) (s : State) : Result := xcv rd (dotH mulUS (s.reg rs1) (s.reg rs2)) s

/-- `cv.dotusp.sc.h`, R671. -/
def execCvDotuspScH  (rd rs1 rs2 : Reg) (s : State) : Result := xcv rd (dotH mulUS (s.reg rs1) (scH (s.reg rs2))) s

/-- `cv.dotusp.sci.h`, R672. -/
def execCvDotuspSciH  (rd rs1 : Reg) (imm6 : BitVec 6) (s : State) : Result :=
  xcv rd (dotH mulUS (s.reg rs1) (sciH imm6)) s

/-- `cv.dotusp.b`, R673. -/
def execCvDotuspB  (rd rs1 rs2 : Reg) (s : State) : Result := xcv rd (dotB mulUS (s.reg rs1) (s.reg rs2)) s

/-- `cv.dotusp.sc.b`, R674. -/
def execCvDotuspScB  (rd rs1 rs2 : Reg) (s : State) : Result := xcv rd (dotB mulUS (s.reg rs1) (scB (s.reg rs2))) s

/-- `cv.dotusp.sci.b`, R675. -/
def execCvDotuspSciB  (rd rs1 : Reg) (imm6 : BitVec 6) (s : State) : Result :=
  xcv rd (dotB mulUS (s.reg rs1) (sciB imm6)) s

/-- `cv.dotsp.h`, R676. -/
def execCvDotspH  (rd rs1 rs2 : Reg) (s : State) : Result := xcv rd (dotH mulSS (s.reg rs1) (s.reg rs2)) s

/-- `cv.dotsp.sc.h`, R677. -/
def execCvDotspScH  (rd rs1 rs2 : Reg) (s : State) : Result := xcv rd (dotH mulSS (s.reg rs1) (scH (s.reg rs2))) s

/-- `cv.dotsp.sci.h`, R678. -/
def execCvDotspSciH  (rd rs1 : Reg) (imm6 : BitVec 6) (s : State) : Result :=
  xcv rd (dotH mulSS (s.reg rs1) (sciH imm6)) s

/-- `cv.dotsp.b`, R679. -/
def execCvDotspB  (rd rs1 rs2 : Reg) (s : State) : Result := xcv rd (dotB mulSS (s.reg rs1) (s.reg rs2)) s

/-- `cv.dotsp.sc.b`, R680. -/
def execCvDotspScB  (rd rs1 rs2 : Reg) (s : State) : Result := xcv rd (dotB mulSS (s.reg rs1) (scB (s.reg rs2))) s

/-- `cv.dotsp.sci.b`, R681. -/
def execCvDotspSciB  (rd rs1 : Reg) (imm6 : BitVec 6) (s : State) : Result :=
  xcv rd (dotB mulSS (s.reg rs1) (sciB imm6)) s

/-- `cv.sdotup.h`, R682. -/
def execCvSdotupH  (rd rs1 rs2 : Reg) (s : State) : Result := xcv rd (s.reg rd + dotH mulUU (s.reg rs1) (s.reg rs2)) s

/-- `cv.sdotup.sc.h`, R683. -/
def execCvSdotupScH  (rd rs1 rs2 : Reg) (s : State) : Result :=
  xcv rd (s.reg rd + dotH mulUU (s.reg rs1) (scH (s.reg rs2))) s

/-- `cv.sdotup.sci.h`, R684. -/
def execCvSdotupSciH  (rd rs1 : Reg) (imm6 : BitVec 6) (s : State) : Result :=
  xcv rd (s.reg rd + dotH mulUU (s.reg rs1) (sciDH s.cfg imm6)) s

/-- `cv.sdotup.b`, R685. -/
def execCvSdotupB  (rd rs1 rs2 : Reg) (s : State) : Result := xcv rd (s.reg rd + dotB mulUU (s.reg rs1) (s.reg rs2)) s

/-- `cv.sdotup.sc.b`, R686. -/
def execCvSdotupScB  (rd rs1 rs2 : Reg) (s : State) : Result :=
  xcv rd (s.reg rd + dotB mulUU (s.reg rs1) (scB (s.reg rs2))) s

/-- `cv.sdotup.sci.b`, R687. -/
def execCvSdotupSciB  (rd rs1 : Reg) (imm6 : BitVec 6) (s : State) : Result :=
  xcv rd (s.reg rd + dotB mulUU (s.reg rs1) (sciDB s.cfg imm6)) s

/-- `cv.sdotusp.h`, R688. -/
def execCvSdotuspH  (rd rs1 rs2 : Reg) (s : State) : Result := xcv rd (s.reg rd + dotH mulUS (s.reg rs1) (s.reg rs2)) s

/-- `cv.sdotusp.sc.h`, R689. -/
def execCvSdotuspScH  (rd rs1 rs2 : Reg) (s : State) : Result :=
  xcv rd (s.reg rd + dotH mulUS (s.reg rs1) (scH (s.reg rs2))) s

/-- `cv.sdotusp.sci.h`, R690. -/
def execCvSdotuspSciH  (rd rs1 : Reg) (imm6 : BitVec 6) (s : State) : Result :=
  xcv rd (s.reg rd + dotH mulUS (s.reg rs1) (sciH imm6)) s

/-- `cv.sdotusp.b`, R691. -/
def execCvSdotuspB  (rd rs1 rs2 : Reg) (s : State) : Result := xcv rd (s.reg rd + dotB mulUS (s.reg rs1) (s.reg rs2)) s

/-- `cv.sdotusp.sc.b`, R692. -/
def execCvSdotuspScB  (rd rs1 rs2 : Reg) (s : State) : Result :=
  xcv rd (s.reg rd + dotB mulUS (s.reg rs1) (scB (s.reg rs2))) s

/-- `cv.sdotusp.sci.b`, R693. -/
def execCvSdotuspSciB  (rd rs1 : Reg) (imm6 : BitVec 6) (s : State) : Result :=
  xcv rd (s.reg rd + dotB mulUS (s.reg rs1) (sciB imm6)) s

/-- `cv.sdotsp.h`, R694. -/
def execCvSdotspH  (rd rs1 rs2 : Reg) (s : State) : Result := xcv rd (s.reg rd + dotH mulSS (s.reg rs1) (s.reg rs2)) s

/-- `cv.sdotsp.sc.h`, R695. -/
def execCvSdotspScH  (rd rs1 rs2 : Reg) (s : State) : Result :=
  xcv rd (s.reg rd + dotH mulSS (s.reg rs1) (scH (s.reg rs2))) s

/-- `cv.sdotsp.sci.h`, R696. -/
def execCvSdotspSciH  (rd rs1 : Reg) (imm6 : BitVec 6) (s : State) : Result :=
  xcv rd (s.reg rd + dotH mulSS (s.reg rs1) (sciH imm6)) s

/-- `cv.sdotsp.b`, R697. -/
def execCvSdotspB  (rd rs1 rs2 : Reg) (s : State) : Result := xcv rd (s.reg rd + dotB mulSS (s.reg rs1) (s.reg rs2)) s

/-- `cv.sdotsp.sc.b`, R698. -/
def execCvSdotspScB  (rd rs1 rs2 : Reg) (s : State) : Result :=
  xcv rd (s.reg rd + dotB mulSS (s.reg rs1) (scB (s.reg rs2))) s

/-- `cv.sdotsp.sci.b`, R699. -/
def execCvSdotspSciB  (rd rs1 : Reg) (imm6 : BitVec 6) (s : State) : Result :=
  xcv rd (s.reg rd + dotB mulSS (s.reg rs1) (sciB imm6)) s

/-- `cv.shuffle.h`, R700. -/
def execCvShuffleH  (rd rs1 rs2 : Reg) (s : State) : Result :=
  xcv rd (packH (halfSel (s.reg rs1) ((s.reg rs2).extractLsb' 16 1)) (halfSel (s.reg rs1) ((s.reg rs2).extractLsb' 0 1))) s

/-- `cv.shuffle.sci.h`, R701. -/
def execCvShuffleSciH  (rd rs1 : Reg) (imm6 : BitVec 6) (s : State) : Result :=
  xcv rd (packH (halfSel (s.reg rs1) (imm6.extractLsb' 1 1)) (halfSel (s.reg rs1) (imm6.extractLsb' 0 1))) s

/-- `cv.shuffle.b`, R702. -/
def execCvShuffleB  (rd rs1 rs2 : Reg) (s : State) : Result :=
  xcv rd (packB (byteSel (s.reg rs1) ((s.reg rs2).extractLsb' 24 2)) (byteSel (s.reg rs1) ((s.reg rs2).extractLsb' 16 2)) (byteSel (s.reg rs1) ((s.reg rs2).extractLsb' 8 2)) (byteSel (s.reg rs1) ((s.reg rs2).extractLsb' 0 2))) s

/-- `cv.shuffleI0.sci.b`, R703. -/
def execCvShuffleI0SciB  (rd rs1 : Reg) (imm6 : BitVec 6) (s : State) : Result :=
  xcv rd (packB (byteOf (s.reg rs1) 0) (byteSel (s.reg rs1) (imm6.extractLsb' 4 2)) (byteSel (s.reg rs1) (imm6.extractLsb' 2 2)) (byteSel (s.reg rs1) (imm6.extractLsb' 0 2))) s

/-- `cv.shuffleI1.sci.b`, R704. -/
def execCvShuffleI1SciB  (rd rs1 : Reg) (imm6 : BitVec 6) (s : State) : Result :=
  xcv rd (packB (byteOf (s.reg rs1) 1) (byteSel (s.reg rs1) (imm6.extractLsb' 4 2)) (byteSel (s.reg rs1) (imm6.extractLsb' 2 2)) (byteSel (s.reg rs1) (imm6.extractLsb' 0 2))) s

/-- `cv.shuffleI2.sci.b`, R705. -/
def execCvShuffleI2SciB  (rd rs1 : Reg) (imm6 : BitVec 6) (s : State) : Result :=
  xcv rd (packB (byteOf (s.reg rs1) 2) (byteSel (s.reg rs1) (imm6.extractLsb' 4 2)) (byteSel (s.reg rs1) (imm6.extractLsb' 2 2)) (byteSel (s.reg rs1) (imm6.extractLsb' 0 2))) s

/-- `cv.shuffleI3.sci.b`, R706. -/
def execCvShuffleI3SciB  (rd rs1 : Reg) (imm6 : BitVec 6) (s : State) : Result :=
  xcv rd (packB (byteOf (s.reg rs1) 3) (byteSel (s.reg rs1) (imm6.extractLsb' 4 2)) (byteSel (s.reg rs1) (imm6.extractLsb' 2 2)) (byteSel (s.reg rs1) (imm6.extractLsb' 0 2))) s

/-- `cv.shuffle2.h`, R707. -/
def execCvShuffle2H  (rd rs1 rs2 : Reg) (s : State) : Result :=
  xcv rd (packH (halfSel (pick ((s.reg rs2).getLsbD 17) (s.reg rs1) (s.reg rd)) ((s.reg rs2).extractLsb' 16 1)) (halfSel (pick ((s.reg rs2).getLsbD 1) (s.reg rs1) (s.reg rd)) ((s.reg rs2).extractLsb' 0 1))) s

/-- `cv.shuffle2.b`, R708. -/
def execCvShuffle2B  (rd rs1 rs2 : Reg) (s : State) : Result :=
  xcv rd (packB (byteSel (pick ((s.reg rs2).getLsbD 26) (s.reg rs1) (s.reg rd)) ((s.reg rs2).extractLsb' 24 2)) (byteSel (pick ((s.reg rs2).getLsbD 18) (s.reg rs1) (s.reg rd)) ((s.reg rs2).extractLsb' 16 2)) (byteSel (pick ((s.reg rs2).getLsbD 10) (s.reg rs1) (s.reg rd)) ((s.reg rs2).extractLsb' 8 2)) (byteSel (pick ((s.reg rs2).getLsbD 2) (s.reg rs1) (s.reg rd)) ((s.reg rs2).extractLsb' 0 2))) s

/-- `cv.pack`, R709. -/
def execCvPack  (rd rs1 rs2 : Reg) (s : State) : Result := xcv rd (packH (loHalf (s.reg rs1)) (loHalf (s.reg rs2))) s

/-- `cv.pack.h`, R710. -/
def execCvPackH  (rd rs1 rs2 : Reg) (s : State) : Result := xcv rd (packH (hiHalf (s.reg rs1)) (hiHalf (s.reg rs2))) s

/-- `cv.packhi.b`, R711. -/
def execCvPackhiB  (rd rs1 rs2 : Reg) (s : State) : Result :=
  xcv rd (byteOf (s.reg rs1) 0 ++ byteOf (s.reg rs2) 0 ++ loHalf (s.reg rd)) s

/-- `cv.packlo.b`, R712. -/
def execCvPackloB  (rd rs1 rs2 : Reg) (s : State) : Result :=
  xcv rd (hiHalf (s.reg rd) ++ byteOf (s.reg rs1) 0 ++ byteOf (s.reg rs2) 0) s

/-- `cv.cmpeq.h`, R720. -/
def execCvCmpeqH  (rd rs1 rs2 : Reg) (s : State) : Result := xcv rd (zipH elemEq (s.reg rs1) (s.reg rs2)) s

/-- `cv.cmpeq.sc.h`, R721. -/
def execCvCmpeqScH  (rd rs1 rs2 : Reg) (s : State) : Result := xcv rd (zipH elemEq (s.reg rs1) (scH (s.reg rs2))) s

/-- `cv.cmpeq.sci.h`, R722. -/
def execCvCmpeqSciH  (rd rs1 : Reg) (imm6 : BitVec 6) (s : State) : Result :=
  xcv rd (zipH elemEq (s.reg rs1) (sciH imm6)) s

/-- `cv.cmpeq.b`, R723. -/
def execCvCmpeqB  (rd rs1 rs2 : Reg) (s : State) : Result := xcv rd (zipB elemEq (s.reg rs1) (s.reg rs2)) s

/-- `cv.cmpeq.sc.b`, R724. -/
def execCvCmpeqScB  (rd rs1 rs2 : Reg) (s : State) : Result := xcv rd (zipB elemEq (s.reg rs1) (scB (s.reg rs2))) s

/-- `cv.cmpeq.sci.b`, R725. -/
def execCvCmpeqSciB  (rd rs1 : Reg) (imm6 : BitVec 6) (s : State) : Result :=
  xcv rd (zipB elemEq (s.reg rs1) (sciB imm6)) s

/-- `cv.cmpne.h`, R726. -/
def execCvCmpneH  (rd rs1 rs2 : Reg) (s : State) : Result := xcv rd (zipH elemNe (s.reg rs1) (s.reg rs2)) s

/-- `cv.cmpne.sc.h`, R727. -/
def execCvCmpneScH  (rd rs1 rs2 : Reg) (s : State) : Result := xcv rd (zipH elemNe (s.reg rs1) (scH (s.reg rs2))) s

/-- `cv.cmpne.sci.h`, R728. -/
def execCvCmpneSciH  (rd rs1 : Reg) (imm6 : BitVec 6) (s : State) : Result :=
  xcv rd (zipH elemNe (s.reg rs1) (sciH imm6)) s

/-- `cv.cmpne.b`, R729. -/
def execCvCmpneB  (rd rs1 rs2 : Reg) (s : State) : Result := xcv rd (zipB elemNe (s.reg rs1) (s.reg rs2)) s

/-- `cv.cmpne.sc.b`, R730. -/
def execCvCmpneScB  (rd rs1 rs2 : Reg) (s : State) : Result := xcv rd (zipB elemNe (s.reg rs1) (scB (s.reg rs2))) s

/-- `cv.cmpne.sci.b`, R731. -/
def execCvCmpneSciB  (rd rs1 : Reg) (imm6 : BitVec 6) (s : State) : Result :=
  xcv rd (zipB elemNe (s.reg rs1) (sciB imm6)) s

/-- `cv.cmpgt.h`, R732. -/
def execCvCmpgtH  (rd rs1 rs2 : Reg) (s : State) : Result := xcv rd (zipH elemGt (s.reg rs1) (s.reg rs2)) s

/-- `cv.cmpgt.sc.h`, R733. -/
def execCvCmpgtScH  (rd rs1 rs2 : Reg) (s : State) : Result := xcv rd (zipH elemGt (s.reg rs1) (scH (s.reg rs2))) s

/-- `cv.cmpgt.sci.h`, R734. -/
def execCvCmpgtSciH  (rd rs1 : Reg) (imm6 : BitVec 6) (s : State) : Result :=
  xcv rd (zipH elemGt (s.reg rs1) (sciH imm6)) s

/-- `cv.cmpgt.b`, R735. -/
def execCvCmpgtB  (rd rs1 rs2 : Reg) (s : State) : Result := xcv rd (zipB elemGt (s.reg rs1) (s.reg rs2)) s

/-- `cv.cmpgt.sc.b`, R736. -/
def execCvCmpgtScB  (rd rs1 rs2 : Reg) (s : State) : Result := xcv rd (zipB elemGt (s.reg rs1) (scB (s.reg rs2))) s

/-- `cv.cmpgt.sci.b`, R737. -/
def execCvCmpgtSciB  (rd rs1 : Reg) (imm6 : BitVec 6) (s : State) : Result :=
  xcv rd (zipB elemGt (s.reg rs1) (sciB imm6)) s

/-- `cv.cmpge.h`, R738. -/
def execCvCmpgeH  (rd rs1 rs2 : Reg) (s : State) : Result := xcv rd (zipH elemGe (s.reg rs1) (s.reg rs2)) s

/-- `cv.cmpge.sc.h`, R739. -/
def execCvCmpgeScH  (rd rs1 rs2 : Reg) (s : State) : Result := xcv rd (zipH elemGe (s.reg rs1) (scH (s.reg rs2))) s

/-- `cv.cmpge.sci.h`, R740. -/
def execCvCmpgeSciH  (rd rs1 : Reg) (imm6 : BitVec 6) (s : State) : Result :=
  xcv rd (zipH elemGe (s.reg rs1) (sciH imm6)) s

/-- `cv.cmpge.b`, R741. -/
def execCvCmpgeB  (rd rs1 rs2 : Reg) (s : State) : Result := xcv rd (zipB elemGe (s.reg rs1) (s.reg rs2)) s

/-- `cv.cmpge.sc.b`, R742. -/
def execCvCmpgeScB  (rd rs1 rs2 : Reg) (s : State) : Result := xcv rd (zipB elemGe (s.reg rs1) (scB (s.reg rs2))) s

/-- `cv.cmpge.sci.b`, R743. -/
def execCvCmpgeSciB  (rd rs1 : Reg) (imm6 : BitVec 6) (s : State) : Result :=
  xcv rd (zipB elemGe (s.reg rs1) (sciB imm6)) s

/-- `cv.cmplt.h`, R744. -/
def execCvCmpltH  (rd rs1 rs2 : Reg) (s : State) : Result := xcv rd (zipH elemLt (s.reg rs1) (s.reg rs2)) s

/-- `cv.cmplt.sc.h`, R745. -/
def execCvCmpltScH  (rd rs1 rs2 : Reg) (s : State) : Result := xcv rd (zipH elemLt (s.reg rs1) (scH (s.reg rs2))) s

/-- `cv.cmplt.sci.h`, R746. -/
def execCvCmpltSciH  (rd rs1 : Reg) (imm6 : BitVec 6) (s : State) : Result :=
  xcv rd (zipH elemLt (s.reg rs1) (sciH imm6)) s

/-- `cv.cmplt.b`, R747. -/
def execCvCmpltB  (rd rs1 rs2 : Reg) (s : State) : Result := xcv rd (zipB elemLt (s.reg rs1) (s.reg rs2)) s

/-- `cv.cmplt.sc.b`, R748. -/
def execCvCmpltScB  (rd rs1 rs2 : Reg) (s : State) : Result := xcv rd (zipB elemLt (s.reg rs1) (scB (s.reg rs2))) s

/-- `cv.cmplt.sci.b`, R749. -/
def execCvCmpltSciB  (rd rs1 : Reg) (imm6 : BitVec 6) (s : State) : Result :=
  xcv rd (zipB elemLt (s.reg rs1) (sciB imm6)) s

/-- `cv.cmple.h`, R750. -/
def execCvCmpleH  (rd rs1 rs2 : Reg) (s : State) : Result := xcv rd (zipH elemLe (s.reg rs1) (s.reg rs2)) s

/-- `cv.cmple.sc.h`, R751. -/
def execCvCmpleScH  (rd rs1 rs2 : Reg) (s : State) : Result := xcv rd (zipH elemLe (s.reg rs1) (scH (s.reg rs2))) s

/-- `cv.cmple.sci.h`, R752. -/
def execCvCmpleSciH  (rd rs1 : Reg) (imm6 : BitVec 6) (s : State) : Result :=
  xcv rd (zipH elemLe (s.reg rs1) (sciH imm6)) s

/-- `cv.cmple.b`, R753. -/
def execCvCmpleB  (rd rs1 rs2 : Reg) (s : State) : Result := xcv rd (zipB elemLe (s.reg rs1) (s.reg rs2)) s

/-- `cv.cmple.sc.b`, R754. -/
def execCvCmpleScB  (rd rs1 rs2 : Reg) (s : State) : Result := xcv rd (zipB elemLe (s.reg rs1) (scB (s.reg rs2))) s

/-- `cv.cmple.sci.b`, R755. -/
def execCvCmpleSciB  (rd rs1 : Reg) (imm6 : BitVec 6) (s : State) : Result :=
  xcv rd (zipB elemLe (s.reg rs1) (sciB imm6)) s

/-- `cv.cmpgtu.h`, R756. -/
def execCvCmpgtuH  (rd rs1 rs2 : Reg) (s : State) : Result := xcv rd (zipH elemGtu (s.reg rs1) (s.reg rs2)) s

/-- `cv.cmpgtu.sc.h`, R757. -/
def execCvCmpgtuScH  (rd rs1 rs2 : Reg) (s : State) : Result := xcv rd (zipH elemGtu (s.reg rs1) (scH (s.reg rs2))) s

/-- `cv.cmpgtu.sci.h`, R758. -/
def execCvCmpgtuSciH  (rd rs1 : Reg) (imm6 : BitVec 6) (s : State) : Result :=
  xcv rd (zipH elemGtu (s.reg rs1) (sciDH s.cfg imm6)) s

/-- `cv.cmpgtu.b`, R759. -/
def execCvCmpgtuB  (rd rs1 rs2 : Reg) (s : State) : Result := xcv rd (zipB elemGtu (s.reg rs1) (s.reg rs2)) s

/-- `cv.cmpgtu.sc.b`, R760. -/
def execCvCmpgtuScB  (rd rs1 rs2 : Reg) (s : State) : Result := xcv rd (zipB elemGtu (s.reg rs1) (scB (s.reg rs2))) s

/-- `cv.cmpgtu.sci.b`, R761. -/
def execCvCmpgtuSciB  (rd rs1 : Reg) (imm6 : BitVec 6) (s : State) : Result :=
  xcv rd (zipB elemGtu (s.reg rs1) (sciDB s.cfg imm6)) s

/-- `cv.cmpgeu.h`, R762. -/
def execCvCmpgeuH  (rd rs1 rs2 : Reg) (s : State) : Result := xcv rd (zipH elemGeu (s.reg rs1) (s.reg rs2)) s

/-- `cv.cmpgeu.sc.h`, R763. -/
def execCvCmpgeuScH  (rd rs1 rs2 : Reg) (s : State) : Result := xcv rd (zipH elemGeu (s.reg rs1) (scH (s.reg rs2))) s

/-- `cv.cmpgeu.sci.h`, R764. -/
def execCvCmpgeuSciH  (rd rs1 : Reg) (imm6 : BitVec 6) (s : State) : Result :=
  xcv rd (zipH elemGeu (s.reg rs1) (sciDH s.cfg imm6)) s

/-- `cv.cmpgeu.b`, R765. -/
def execCvCmpgeuB  (rd rs1 rs2 : Reg) (s : State) : Result := xcv rd (zipB elemGeu (s.reg rs1) (s.reg rs2)) s

/-- `cv.cmpgeu.sc.b`, R766. -/
def execCvCmpgeuScB  (rd rs1 rs2 : Reg) (s : State) : Result := xcv rd (zipB elemGeu (s.reg rs1) (scB (s.reg rs2))) s

/-- `cv.cmpgeu.sci.b`, R767. -/
def execCvCmpgeuSciB  (rd rs1 : Reg) (imm6 : BitVec 6) (s : State) : Result :=
  xcv rd (zipB elemGeu (s.reg rs1) (sciDB s.cfg imm6)) s

/-- `cv.cmpltu.h`, R768. -/
def execCvCmpltuH  (rd rs1 rs2 : Reg) (s : State) : Result := xcv rd (zipH elemLtu (s.reg rs1) (s.reg rs2)) s

/-- `cv.cmpltu.sc.h`, R769. -/
def execCvCmpltuScH  (rd rs1 rs2 : Reg) (s : State) : Result := xcv rd (zipH elemLtu (s.reg rs1) (scH (s.reg rs2))) s

/-- `cv.cmpltu.sci.h`, R770. -/
def execCvCmpltuSciH  (rd rs1 : Reg) (imm6 : BitVec 6) (s : State) : Result :=
  xcv rd (zipH elemLtu (s.reg rs1) (sciDH s.cfg imm6)) s

/-- `cv.cmpltu.b`, R771. -/
def execCvCmpltuB  (rd rs1 rs2 : Reg) (s : State) : Result := xcv rd (zipB elemLtu (s.reg rs1) (s.reg rs2)) s

/-- `cv.cmpltu.sc.b`, R772. -/
def execCvCmpltuScB  (rd rs1 rs2 : Reg) (s : State) : Result := xcv rd (zipB elemLtu (s.reg rs1) (scB (s.reg rs2))) s

/-- `cv.cmpltu.sci.b`, R773. -/
def execCvCmpltuSciB  (rd rs1 : Reg) (imm6 : BitVec 6) (s : State) : Result :=
  xcv rd (zipB elemLtu (s.reg rs1) (sciDB s.cfg imm6)) s

/-- `cv.cmpleu.h`, R774. -/
def execCvCmpleuH  (rd rs1 rs2 : Reg) (s : State) : Result := xcv rd (zipH elemLeu (s.reg rs1) (s.reg rs2)) s

/-- `cv.cmpleu.sc.h`, R775. -/
def execCvCmpleuScH  (rd rs1 rs2 : Reg) (s : State) : Result := xcv rd (zipH elemLeu (s.reg rs1) (scH (s.reg rs2))) s

/-- `cv.cmpleu.sci.h`, R776. -/
def execCvCmpleuSciH  (rd rs1 : Reg) (imm6 : BitVec 6) (s : State) : Result :=
  xcv rd (zipH elemLeu (s.reg rs1) (sciDH s.cfg imm6)) s

/-- `cv.cmpleu.b`, R777. -/
def execCvCmpleuB  (rd rs1 rs2 : Reg) (s : State) : Result := xcv rd (zipB elemLeu (s.reg rs1) (s.reg rs2)) s

/-- `cv.cmpleu.sc.b`, R778. -/
def execCvCmpleuScB  (rd rs1 rs2 : Reg) (s : State) : Result := xcv rd (zipB elemLeu (s.reg rs1) (scB (s.reg rs2))) s

/-- `cv.cmpleu.sci.b`, R779. -/
def execCvCmpleuSciB  (rd rs1 : Reg) (imm6 : BitVec 6) (s : State) : Result :=
  xcv rd (zipB elemLeu (s.reg rs1) (sciDB s.cfg imm6)) s

/-- `cv.cplxmul.r`, R790. -/
def execCvCplxmulR  (rd rs1 rs2 : Reg) (s : State) : Result :=
  xcv rd (packH (hiHalf (s.reg rd)) (cplxShift 15 (cplxReal (s.reg rs1) (s.reg rs2)))) s

/-- `cv.cplxmul.r.div2`, R791. -/
def execCvCplxmulRDiv2  (rd rs1 rs2 : Reg) (s : State) : Result :=
  xcv rd (packH (hiHalf (s.reg rd)) (cplxShift 16 (cplxReal (s.reg rs1) (s.reg rs2)))) s

/-- `cv.cplxmul.r.div4`, R792. -/
def execCvCplxmulRDiv4  (rd rs1 rs2 : Reg) (s : State) : Result :=
  xcv rd (packH (hiHalf (s.reg rd)) (cplxShift 17 (cplxReal (s.reg rs1) (s.reg rs2)))) s

/-- `cv.cplxmul.r.div8`, R793. -/
def execCvCplxmulRDiv8  (rd rs1 rs2 : Reg) (s : State) : Result :=
  xcv rd (packH (hiHalf (s.reg rd)) (cplxShift 18 (cplxReal (s.reg rs1) (s.reg rs2)))) s

/-- `cv.cplxmul.i`, R794. -/
def execCvCplxmulI  (rd rs1 rs2 : Reg) (s : State) : Result :=
  xcv rd (packH (cplxShift 15 (cplxImag (s.reg rs1) (s.reg rs2))) (loHalf (s.reg rd))) s

/-- `cv.cplxmul.i.div2`, R795. -/
def execCvCplxmulIDiv2  (rd rs1 rs2 : Reg) (s : State) : Result :=
  xcv rd (packH (cplxShift 16 (cplxImag (s.reg rs1) (s.reg rs2))) (loHalf (s.reg rd))) s

/-- `cv.cplxmul.i.div4`, R796. -/
def execCvCplxmulIDiv4  (rd rs1 rs2 : Reg) (s : State) : Result :=
  xcv rd (packH (cplxShift 17 (cplxImag (s.reg rs1) (s.reg rs2))) (loHalf (s.reg rd))) s

/-- `cv.cplxmul.i.div8`, R797. -/
def execCvCplxmulIDiv8  (rd rs1 rs2 : Reg) (s : State) : Result :=
  xcv rd (packH (cplxShift 18 (cplxImag (s.reg rs1) (s.reg rs2))) (loHalf (s.reg rd))) s

/-- `cv.cplxconj`, R798. -/
def execCvCplxconj  (rd rs1 : Reg) (s : State) : Result := xcv rd (packH (-(hiHalf (s.reg rs1))) (loHalf (s.reg rs1))) s

/-- `cv.subrotmj`, R799. -/
def execCvSubrotmj  (rd rs1 rs2 : Reg) (s : State) : Result :=
  xcv rd (packH ((loHalf (s.reg rs2) - loHalf (s.reg rs1)).sshiftRight 0) ((hiHalf (s.reg rs1) - hiHalf (s.reg rs2)).sshiftRight 0)) s

/-- `cv.subrotmj.div2`, R800. -/
def execCvSubrotmjDiv2  (rd rs1 rs2 : Reg) (s : State) : Result :=
  xcv rd (packH ((loHalf (s.reg rs2) - loHalf (s.reg rs1)).sshiftRight 1) ((hiHalf (s.reg rs1) - hiHalf (s.reg rs2)).sshiftRight 1)) s

/-- `cv.subrotmj.div4`, R801. -/
def execCvSubrotmjDiv4  (rd rs1 rs2 : Reg) (s : State) : Result :=
  xcv rd (packH ((loHalf (s.reg rs2) - loHalf (s.reg rs1)).sshiftRight 2) ((hiHalf (s.reg rs1) - hiHalf (s.reg rs2)).sshiftRight 2)) s

/-- `cv.subrotmj.div8`, R802. -/
def execCvSubrotmjDiv8  (rd rs1 rs2 : Reg) (s : State) : Result :=
  xcv rd (packH ((loHalf (s.reg rs2) - loHalf (s.reg rs1)).sshiftRight 3) ((hiHalf (s.reg rs1) - hiHalf (s.reg rs2)).sshiftRight 3)) s

/-- `cv.add.div2`, R803. -/
def execCvAddDiv2  (rd rs1 rs2 : Reg) (s : State) : Result :=
  xcv rd (zipH (fun x y => (x + y).sshiftRight 1) (s.reg rs1) (s.reg rs2)) s

/-- `cv.add.div4`, R804. -/
def execCvAddDiv4  (rd rs1 rs2 : Reg) (s : State) : Result :=
  xcv rd (zipH (fun x y => (x + y).sshiftRight 2) (s.reg rs1) (s.reg rs2)) s

/-- `cv.add.div8`, R805. -/
def execCvAddDiv8  (rd rs1 rs2 : Reg) (s : State) : Result :=
  xcv rd (zipH (fun x y => (x + y).sshiftRight 3) (s.reg rs1) (s.reg rs2)) s

/-- `cv.sub.div2`, R806. -/
def execCvSubDiv2  (rd rs1 rs2 : Reg) (s : State) : Result :=
  xcv rd (zipH (fun x y => (x - y).sshiftRight 1) (s.reg rs1) (s.reg rs2)) s

/-- `cv.sub.div4`, R807. -/
def execCvSubDiv4  (rd rs1 rs2 : Reg) (s : State) : Result :=
  xcv rd (zipH (fun x y => (x - y).sshiftRight 2) (s.reg rs1) (s.reg rs2)) s

/-- `cv.sub.div8`, R808. -/
def execCvSubDiv8  (rd rs1 rs2 : Reg) (s : State) : Result :=
  xcv rd (zipH (fun x y => (x - y).sshiftRight 3) (s.reg rs1) (s.reg rs2)) s

end Sys2Proof.Machine
end

