-- ==== Sys2Proof/Syntax.lean ====
section
/-! DEFINITION. The instructions of the CV32E40P: one constructor per row of spec/opcode_table.json, in the order of the
families of spec/. A mnemonic with three addressing forms (cv.lb .. cv.sw) has three constructors: PostImm, PostReg, Idx.

Operand names are those of spec/00_scope.md R21 and spec/30_encoding.md R165. `imm` of a branch or jump is the byte offset
without its always-zero bit 0; `imm` of lui and auipc is imm[31:12]. -/

namespace Sys2Proof

/-- The instruction set, as data: nothing here says what an instruction does. -/
inductive Instr where
  -- RV32I base integer instructions (spec/40_rv32im.md)
  | lui (rd : Reg) (imm : BitVec 20)
  | auipc (rd : Reg) (imm : BitVec 20)
  | jal (rd : Reg) (imm : BitVec 20)
  | jalr (rd rs1 : Reg) (imm : BitVec 12)
  | beq (rs1 rs2 : Reg) (imm : BitVec 12)
  | bne (rs1 rs2 : Reg) (imm : BitVec 12)
  | blt (rs1 rs2 : Reg) (imm : BitVec 12)
  | bge (rs1 rs2 : Reg) (imm : BitVec 12)
  | bltu (rs1 rs2 : Reg) (imm : BitVec 12)
  | bgeu (rs1 rs2 : Reg) (imm : BitVec 12)
  | lb (rd rs1 : Reg) (imm : BitVec 12)
  | lh (rd rs1 : Reg) (imm : BitVec 12)
  | lw (rd rs1 : Reg) (imm : BitVec 12)
  | lbu (rd rs1 : Reg) (imm : BitVec 12)
  | lhu (rd rs1 : Reg) (imm : BitVec 12)
  | sb (rs2 rs1 : Reg) (imm : BitVec 12)
  | sh (rs2 rs1 : Reg) (imm : BitVec 12)
  | sw (rs2 rs1 : Reg) (imm : BitVec 12)
  | addi (rd rs1 : Reg) (imm : BitVec 12)
  | slti (rd rs1 : Reg) (imm : BitVec 12)
  | sltiu (rd rs1 : Reg) (imm : BitVec 12)
  | xori (rd rs1 : Reg) (imm : BitVec 12)
  | ori (rd rs1 : Reg) (imm : BitVec 12)
  | andi (rd rs1 : Reg) (imm : BitVec 12)
  | slli (rd rs1 : Reg) (shamt : BitVec 5)
  | srli (rd rs1 : Reg) (shamt : BitVec 5)
  | srai (rd rs1 : Reg) (shamt : BitVec 5)
  | add (rd rs1 rs2 : Reg)
  | sub (rd rs1 rs2 : Reg)
  | sll (rd rs1 rs2 : Reg)
  | slt (rd rs1 rs2 : Reg)
  | sltu (rd rs1 rs2 : Reg)
  | xor (rd rs1 rs2 : Reg)
  | srl (rd rs1 rs2 : Reg)
  | sra (rd rs1 rs2 : Reg)
  | or (rd rs1 rs2 : Reg)
  | and (rd rs1 rs2 : Reg)
  | ecall
  | ebreak
  -- M extension (spec/40_rv32im.md)
  | mul (rd rs1 rs2 : Reg)
  | mulh (rd rs1 rs2 : Reg)
  | mulhsu (rd rs1 rs2 : Reg)
  | mulhu (rd rs1 rs2 : Reg)
  | div (rd rs1 rs2 : Reg)
  | divu (rd rs1 rs2 : Reg)
  | rem (rd rs1 rs2 : Reg)
  | remu (rd rs1 rs2 : Reg)
  -- C extension, 16 bits long (spec/41_rv32c.md); `imm` holds the immediate without its always-zero low bits
  | cAddi4spn (rd : Reg3) (imm : BitVec 8)
  | cLw (rd rs1 : Reg3) (imm : BitVec 5)
  | cSw (rs2 rs1 : Reg3) (imm : BitVec 5)
  | cFlw (rd rs1 : Reg3) (imm : BitVec 5)
  | cFsw (rs2 rs1 : Reg3) (imm : BitVec 5)
  | cNop (imm : BitVec 6)
  | cAddi (rd : Reg) (imm : BitVec 6)
  | cJal (imm : BitVec 11)
  | cLi (rd : Reg) (imm : BitVec 6)
  | cAddi16sp (imm : BitVec 6)
  | cLui (rd : Reg) (imm : BitVec 6)
  | cSrli (rd : Reg3) (shamt : BitVec 5)
  | cSrai (rd : Reg3) (shamt : BitVec 5)
  | cAndi (rd : Reg3) (imm : BitVec 6)
  | cSub (rd rs2 : Reg3)
  | cXor (rd rs2 : Reg3)
  | cOr (rd rs2 : Reg3)
  | cAnd (rd rs2 : Reg3)
  | cJ (imm : BitVec 11)
  | cBeqz (rs1 : Reg3) (imm : BitVec 8)
  | cBnez (rs1 : Reg3) (imm : BitVec 8)
  | cSlli (rd : Reg) (shamt : BitVec 5)
  | cLwsp (rd : Reg) (imm : BitVec 6)
  | cFlwsp (rd : Reg) (imm : BitVec 6)
  | cJr (rs1 : Reg)
  | cMv (rd rs2 : Reg)
  | cEbreak
  | cJalr (rs1 : Reg)
  | cAdd (rd rs2 : Reg)
  | cSwsp (rs2 : Reg) (imm : BitVec 6)
  | cFswsp (rs2 : Reg) (imm : BitVec 6)
  -- Zicsr, fences and the privileged instructions (spec/42_zicsr_zifencei_priv.md)
  | csrrw (rd : Reg) (csr : BitVec 12) (rs1 : Reg)
  | csrrs (rd : Reg) (csr : BitVec 12) (rs1 : Reg)
  | csrrc (rd : Reg) (csr : BitVec 12) (rs1 : Reg)
  | csrrwi (rd : Reg) (csr : BitVec 12) (uimm : BitVec 5)
  | csrrsi (rd : Reg) (csr : BitVec 12) (uimm : BitVec 5)
  | csrrci (rd : Reg) (csr : BitVec 12) (uimm : BitVec 5)
  | fence (imm : BitVec 12) (rs1 rd : Reg)
  | fenceI (imm : BitVec 12) (rs1 rd : Reg)
  | mret
  | dret
  | wfi
  -- F extension and Zfinx (spec/43_rv32f_zfinx.md)
  | flw (rd rs1 : Reg) (imm : BitVec 12)
  | fsw (rs2 rs1 : Reg) (imm : BitVec 12)
  | fmaddS (rd rs1 rs2 rs3 : Reg) (rm : BitVec 3)
  | fmsubS (rd rs1 rs2 rs3 : Reg) (rm : BitVec 3)
  | fnmsubS (rd rs1 rs2 rs3 : Reg) (rm : BitVec 3)
  | fnmaddS (rd rs1 rs2 rs3 : Reg) (rm : BitVec 3)
  | faddS (rd rs1 rs2 : Reg) (rm : BitVec 3)
  | fsubS (rd rs1 rs2 : Reg) (rm : BitVec 3)
  | fmulS (rd rs1 rs2 : Reg) (rm : BitVec 3)
  | fdivS (rd rs1 rs2 : Reg) (rm : BitVec 3)
  | fsqrtS (rd rs1 : Reg) (rm : BitVec 3)
  | fsgnjS (rd rs1 rs2 : Reg)
  | fsgnjnS (rd rs1 rs2 : Reg)
  | fsgnjxS (rd rs1 rs2 : Reg)
  | fminS (rd rs1 rs2 : Reg)
  | fmaxS (rd rs1 rs2 : Reg)
  | fcvtWS (rd rs1 : Reg) (rm : BitVec 3)
  | fcvtWuS (rd rs1 : Reg) (rm : BitVec 3)
  | fmvXW (rd rs1 : Reg)
  | feqS (rd rs1 rs2 : Reg)
  | fltS (rd rs1 rs2 : Reg)
  | fleS (rd rs1 rs2 : Reg)
  | fclassS (rd rs1 : Reg)
  | fcvtSW (rd rs1 : Reg) (rm : BitVec 3)
  | fcvtSWu (rd rs1 : Reg) (rm : BitVec 3)
  | fmvWX (rd rs1 : Reg)
  -- Xcv loads and stores and cv.elw (spec/44_xcv_mem_elw.md)
  | cvLbPostImm (rd rs1 : Reg) (imm : BitVec 12)
  | cvLbuPostImm (rd rs1 : Reg) (imm : BitVec 12)
  | cvLhPostImm (rd rs1 : Reg) (imm : BitVec 12)
  | cvLhuPostImm (rd rs1 : Reg) (imm : BitVec 12)
  | cvLwPostImm (rd rs1 : Reg) (imm : BitVec 12)
  | cvLbPostReg (rd rs1 rs2 : Reg)
  | cvLbuPostReg (rd rs1 rs2 : Reg)
  | cvLhPostReg (rd rs1 rs2 : Reg)
  | cvLhuPostReg (rd rs1 rs2 : Reg)
  | cvLwPostReg (rd rs1 rs2 : Reg)
  | cvLbIdx (rd rs1 rs2 : Reg)
  | cvLbuIdx (rd rs1 rs2 : Reg)
  | cvLhIdx (rd rs1 rs2 : Reg)
  | cvLhuIdx (rd rs1 rs2 : Reg)
  | cvLwIdx (rd rs1 rs2 : Reg)
  | cvSbPostImm (rs2 rs1 : Reg) (imm : BitVec 12)
  | cvShPostImm (rs2 rs1 : Reg) (imm : BitVec 12)
  | cvSwPostImm (rs2 rs1 : Reg) (imm : BitVec 12)
  | cvSbPostReg (rs2 rs1 rs3 : Reg)
  | cvShPostReg (rs2 rs1 rs3 : Reg)
  | cvSwPostReg (rs2 rs1 rs3 : Reg)
  | cvSbIdx (rs2 rs1 rs3 : Reg)
  | cvShIdx (rs2 rs1 rs3 : Reg)
  | cvSwIdx (rs2 rs1 rs3 : Reg)
  | cvElw (rd rs1 : Reg) (imm : BitVec 12)
  -- Hardware loops (spec/45_xcv_hwloop.md)
  | cvStarti (l : BitVec 1) (uimmL : BitVec 12)
  | cvStart (l : BitVec 1) (rs1 : Reg)
  | cvEndi (l : BitVec 1) (uimmL : BitVec 12)
  | cvEnd (l : BitVec 1) (rs1 : Reg)
  | cvCounti (l : BitVec 1) (uimmL : BitVec 12)
  | cvCount (l : BitVec 1) (rs1 : Reg)
  | cvSetupi (l : BitVec 1) (uimmL : BitVec 12) (uimmS : BitVec 5)
  | cvSetup (l : BitVec 1) (rs1 : Reg) (uimmL : BitVec 12)
  -- Xcv ALU (spec/46_xcv_alu.md)
  | cvExtract (rd rs1 : Reg) (is3 is2 : BitVec 5)
  | cvExtractu (rd rs1 : Reg) (is3 is2 : BitVec 5)
  | cvInsert (rd rs1 : Reg) (is3 is2 : BitVec 5)
  | cvBclr (rd rs1 : Reg) (is3 is2 : BitVec 5)
  | cvBset (rd rs1 : Reg) (is3 is2 : BitVec 5)
  | cvBitrev (rd rs1 : Reg) (is3 : BitVec 2) (is2 : BitVec 5)
  | cvExtractr (rd rs1 rs2 : Reg)
  | cvExtractur (rd rs1 rs2 : Reg)
  | cvInsertr (rd rs1 rs2 : Reg)
  | cvBclrr (rd rs1 rs2 : Reg)
  | cvBsetr (rd rs1 rs2 : Reg)
  | cvRor (rd rs1 rs2 : Reg)
  | cvFf1 (rd rs1 : Reg)
  | cvFl1 (rd rs1 : Reg)
  | cvClb (rd rs1 : Reg)
  | cvCnt (rd rs1 : Reg)
  | cvAbs (rd rs1 : Reg)
  | cvSle (rd rs1 rs2 : Reg)
  | cvSleu (rd rs1 rs2 : Reg)
  | cvMin (rd rs1 rs2 : Reg)
  | cvMinu (rd rs1 rs2 : Reg)
  | cvMax (rd rs1 rs2 : Reg)
  | cvMaxu (rd rs1 rs2 : Reg)
  | cvExths (rd rs1 : Reg)
  | cvExthz (rd rs1 : Reg)
  | cvExtbs (rd rs1 : Reg)
  | cvExtbz (rd rs1 : Reg)
  | cvClip (rd rs1 : Reg) (is2 : BitVec 5)
  | cvClipu (rd rs1 : Reg) (is2 : BitVec 5)
  | cvClipr (rd rs1 rs2 : Reg)
  | cvClipur (rd rs1 rs2 : Reg)
  | cvAddN (rd rs1 rs2 : Reg) (is3 : BitVec 5)
  | cvAdduN (rd rs1 rs2 : Reg) (is3 : BitVec 5)
  | cvAddRN (rd rs1 rs2 : Reg) (is3 : BitVec 5)
  | cvAdduRN (rd rs1 rs2 : Reg) (is3 : BitVec 5)
  | cvSubN (rd rs1 rs2 : Reg) (is3 : BitVec 5)
  | cvSubuN (rd rs1 rs2 : Reg) (is3 : BitVec 5)
  | cvSubRN (rd rs1 rs2 : Reg) (is3 : BitVec 5)
  | cvSubuRN (rd rs1 rs2 : Reg) (is3 : BitVec 5)
  | cvAddNr (rd rs1 rs2 : Reg)
  | cvAdduNr (rd rs1 rs2 : Reg)
  | cvAddRNr (rd rs1 rs2 : Reg)
  | cvAdduRNr (rd rs1 rs2 : Reg)
  | cvSubNr (rd rs1 rs2 : Reg)
  | cvSubuNr (rd rs1 rs2 : Reg)
  | cvSubRNr (rd rs1 rs2 : Reg)
  | cvSubuRNr (rd rs1 rs2 : Reg)
  | cvBeqimm (rs1 : Reg) (imm5 : BitVec 5) (imm : BitVec 12)
  | cvBneimm (rs1 : Reg) (imm5 : BitVec 5) (imm : BitVec 12)
  -- Xcv multiply-accumulate (spec/47_xcv_mac.md)
  | cvMuluN (rd rs1 rs2 : Reg) (is3 : BitVec 5)
  | cvMulhhuN (rd rs1 rs2 : Reg) (is3 : BitVec 5)
  | cvMulsN (rd rs1 rs2 : Reg) (is3 : BitVec 5)
  | cvMulhhsN (rd rs1 rs2 : Reg) (is3 : BitVec 5)
  | cvMuluRN (rd rs1 rs2 : Reg) (is3 : BitVec 5)
  | cvMulhhuRN (rd rs1 rs2 : Reg) (is3 : BitVec 5)
  | cvMulsRN (rd rs1 rs2 : Reg) (is3 : BitVec 5)
  | cvMulhhsRN (rd rs1 rs2 : Reg) (is3 : BitVec 5)
  | cvMacuN (rd rs1 rs2 : Reg) (is3 : BitVec 5)
  | cvMachhuN (rd rs1 rs2 : Reg) (is3 : BitVec 5)
  | cvMacsN (rd rs1 rs2 : Reg) (is3 : BitVec 5)
  | cvMachhsN (rd rs1 rs2 : Reg) (is3 : BitVec 5)
  | cvMacuRN (rd rs1 rs2 : Reg) (is3 : BitVec 5)
  | cvMachhuRN (rd rs1 rs2 : Reg) (is3 : BitVec 5)
  | cvMacsRN (rd rs1 rs2 : Reg) (is3 : BitVec 5)
  | cvMachhsRN (rd rs1 rs2 : Reg) (is3 : BitVec 5)
  | cvMac (rd rs1 rs2 : Reg)
  | cvMsu (rd rs1 rs2 : Reg)
  -- Xcv SIMD ALU and bit manipulation (spec/48_xcv_simd_alu.md)
  | cvAddH (rd rs1 rs2 : Reg)
  | cvAddScH (rd rs1 rs2 : Reg)
  | cvAddSciH (rd rs1 : Reg) (imm6 : BitVec 6)
  | cvAddB (rd rs1 rs2 : Reg)
  | cvAddScB (rd rs1 rs2 : Reg)
  | cvAddSciB (rd rs1 : Reg) (imm6 : BitVec 6)
  | cvSubH (rd rs1 rs2 : Reg)
  | cvSubScH (rd rs1 rs2 : Reg)
  | cvSubSciH (rd rs1 : Reg) (imm6 : BitVec 6)
  | cvSubB (rd rs1 rs2 : Reg)
  | cvSubScB (rd rs1 rs2 : Reg)
  | cvSubSciB (rd rs1 : Reg) (imm6 : BitVec 6)
  | cvAvgH (rd rs1 rs2 : Reg)
  | cvAvgScH (rd rs1 rs2 : Reg)
  | cvAvgSciH (rd rs1 : Reg) (imm6 : BitVec 6)
  | cvAvgB (rd rs1 rs2 : Reg)
  | cvAvgScB (rd rs1 rs2 : Reg)
  | cvAvgSciB (rd rs1 : Reg) (imm6 : BitVec 6)
  | cvAvguH (rd rs1 rs2 : Reg)
  | cvAvguScH (rd rs1 rs2 : Reg)
  | cvAvguSciH (rd rs1 : Reg) (imm6 : BitVec 6)
  | cvAvguB (rd rs1 rs2 : Reg)
  | cvAvguScB (rd rs1 rs2 : Reg)
  | cvAvguSciB (rd rs1 : Reg) (imm6 : BitVec 6)
  | cvMinH (rd rs1 rs2 : Reg)
  | cvMinScH (rd rs1 rs2 : Reg)
  | cvMinSciH (rd rs1 : Reg) (imm6 : BitVec 6)
  | cvMinB (rd rs1 rs2 : Reg)
  | cvMinScB (rd rs1 rs2 : Reg)
  | cvMinSciB (rd rs1 : Reg) (imm6 : BitVec 6)
  | cvMinuH (rd rs1 rs2 : Reg)
  | cvMinuScH (rd rs1 rs2 : Reg)
  | cvMinuSciH (rd rs1 : Reg) (imm6 : BitVec 6)
  | cvMinuB (rd rs1 rs2 : Reg)
  | cvMinuScB (rd rs1 rs2 : Reg)
  | cvMinuSciB (rd rs1 : Reg) (imm6 : BitVec 6)
  | cvMaxH (rd rs1 rs2 : Reg)
  | cvMaxScH (rd rs1 rs2 : Reg)
  | cvMaxSciH (rd rs1 : Reg) (imm6 : BitVec 6)
  | cvMaxB (rd rs1 rs2 : Reg)
  | cvMaxScB (rd rs1 rs2 : Reg)
  | cvMaxSciB (rd rs1 : Reg) (imm6 : BitVec 6)
  | cvMaxuH (rd rs1 rs2 : Reg)
  | cvMaxuScH (rd rs1 rs2 : Reg)
  | cvMaxuSciH (rd rs1 : Reg) (imm6 : BitVec 6)
  | cvMaxuB (rd rs1 rs2 : Reg)
  | cvMaxuScB (rd rs1 rs2 : Reg)
  | cvMaxuSciB (rd rs1 : Reg) (imm6 : BitVec 6)
  | cvSrlH (rd rs1 rs2 : Reg)
  | cvSrlScH (rd rs1 rs2 : Reg)
  | cvSrlSciH (rd rs1 : Reg) (imm6 : BitVec 6)
  | cvSrlB (rd rs1 rs2 : Reg)
  | cvSrlScB (rd rs1 rs2 : Reg)
  | cvSrlSciB (rd rs1 : Reg) (imm6 : BitVec 6)
  | cvSraH (rd rs1 rs2 : Reg)
  | cvSraScH (rd rs1 rs2 : Reg)
  | cvSraSciH (rd rs1 : Reg) (imm6 : BitVec 6)
  | cvSraB (rd rs1 rs2 : Reg)
  | cvSraScB (rd rs1 rs2 : Reg)
  | cvSraSciB (rd rs1 : Reg) (imm6 : BitVec 6)
  | cvSllH (rd rs1 rs2 : Reg)
  | cvSllScH (rd rs1 rs2 : Reg)
  | cvSllSciH (rd rs1 : Reg) (imm6 : BitVec 6)
  | cvSllB (rd rs1 rs2 : Reg)
  | cvSllScB (rd rs1 rs2 : Reg)
  | cvSllSciB (rd rs1 : Reg) (imm6 : BitVec 6)
  | cvOrH (rd rs1 rs2 : Reg)
  | cvOrScH (rd rs1 rs2 : Reg)
  | cvOrSciH (rd rs1 : Reg) (imm6 : BitVec 6)
  | cvOrB (rd rs1 rs2 : Reg)
  | cvOrScB (rd rs1 rs2 : Reg)
  | cvOrSciB (rd rs1 : Reg) (imm6 : BitVec 6)
  | cvXorH (rd rs1 rs2 : Reg)
  | cvXorScH (rd rs1 rs2 : Reg)
  | cvXorSciH (rd rs1 : Reg) (imm6 : BitVec 6)
  | cvXorB (rd rs1 rs2 : Reg)
  | cvXorScB (rd rs1 rs2 : Reg)
  | cvXorSciB (rd rs1 : Reg) (imm6 : BitVec 6)
  | cvAndH (rd rs1 rs2 : Reg)
  | cvAndScH (rd rs1 rs2 : Reg)
  | cvAndSciH (rd rs1 : Reg) (imm6 : BitVec 6)
  | cvAndB (rd rs1 rs2 : Reg)
  | cvAndScB (rd rs1 rs2 : Reg)
  | cvAndSciB (rd rs1 : Reg) (imm6 : BitVec 6)
  | cvAbsH (rd rs1 : Reg)
  | cvAbsB (rd rs1 : Reg)
  | cvExtractH (rd rs1 : Reg) (imm6 : BitVec 6)
  | cvExtractB (rd rs1 : Reg) (imm6 : BitVec 6)
  | cvExtractuH (rd rs1 : Reg) (imm6 : BitVec 6)
  | cvExtractuB (rd rs1 : Reg) (imm6 : BitVec 6)
  | cvInsertH (rd rs1 : Reg) (imm6 : BitVec 6)
  | cvInsertB (rd rs1 : Reg) (imm6 : BitVec 6)
  -- Xcv SIMD dot product, shuffle, pack, comparison, complex (spec/49_xcv_simd_dot_shuffle_cmp_cplx.md)
  | cvDotupH (rd rs1 rs2 : Reg)
  | cvDotupScH (rd rs1 rs2 : Reg)
  | cvDotupSciH (rd rs1 : Reg) (imm6 : BitVec 6)
  | cvDotupB (rd rs1 rs2 : Reg)
  | cvDotupScB (rd rs1 rs2 : Reg)
  | cvDotupSciB (rd rs1 : Reg) (imm6 : BitVec 6)
  | cvDotuspH (rd rs1 rs2 : Reg)
  | cvDotuspScH (rd rs1 rs2 : Reg)
  | cvDotuspSciH (rd rs1 : Reg) (imm6 : BitVec 6)
  | cvDotuspB (rd rs1 rs2 : Reg)
  | cvDotuspScB (rd rs1 rs2 : Reg)
  | cvDotuspSciB (rd rs1 : Reg) (imm6 : BitVec 6)
  | cvDotspH (rd rs1 rs2 : Reg)
  | cvDotspScH (rd rs1 rs2 : Reg)
  | cvDotspSciH (rd rs1 : Reg) (imm6 : BitVec 6)
  | cvDotspB (rd rs1 rs2 : Reg)
  | cvDotspScB (rd rs1 rs2 : Reg)
  | cvDotspSciB (rd rs1 : Reg) (imm6 : BitVec 6)
  | cvSdotupH (rd rs1 rs2 : Reg)
  | cvSdotupScH (rd rs1 rs2 : Reg)
  | cvSdotupSciH (rd rs1 : Reg) (imm6 : BitVec 6)
  | cvSdotupB (rd rs1 rs2 : Reg)
  | cvSdotupScB (rd rs1 rs2 : Reg)
  | cvSdotupSciB (rd rs1 : Reg) (imm6 : BitVec 6)
  | cvSdotuspH (rd rs1 rs2 : Reg)
  | cvSdotuspScH (rd rs1 rs2 : Reg)
  | cvSdotuspSciH (rd rs1 : Reg) (imm6 : BitVec 6)
  | cvSdotuspB (rd rs1 rs2 : Reg)
  | cvSdotuspScB (rd rs1 rs2 : Reg)
  | cvSdotuspSciB (rd rs1 : Reg) (imm6 : BitVec 6)
  | cvSdotspH (rd rs1 rs2 : Reg)
  | cvSdotspScH (rd rs1 rs2 : Reg)
  | cvSdotspSciH (rd rs1 : Reg) (imm6 : BitVec 6)
  | cvSdotspB (rd rs1 rs2 : Reg)
  | cvSdotspScB (rd rs1 rs2 : Reg)
  | cvSdotspSciB (rd rs1 : Reg) (imm6 : BitVec 6)
  | cvShuffleH (rd rs1 rs2 : Reg)
  | cvShuffleSciH (rd rs1 : Reg) (imm6 : BitVec 6)
  | cvShuffleB (rd rs1 rs2 : Reg)
  | cvShuffleI0SciB (rd rs1 : Reg) (imm6 : BitVec 6)
  | cvShuffleI1SciB (rd rs1 : Reg) (imm6 : BitVec 6)
  | cvShuffleI2SciB (rd rs1 : Reg) (imm6 : BitVec 6)
  | cvShuffleI3SciB (rd rs1 : Reg) (imm6 : BitVec 6)
  | cvShuffle2H (rd rs1 rs2 : Reg)
  | cvShuffle2B (rd rs1 rs2 : Reg)
  | cvPack (rd rs1 rs2 : Reg)
  | cvPackH (rd rs1 rs2 : Reg)
  | cvPackhiB (rd rs1 rs2 : Reg)
  | cvPackloB (rd rs1 rs2 : Reg)
  | cvCmpeqH (rd rs1 rs2 : Reg)
  | cvCmpeqScH (rd rs1 rs2 : Reg)
  | cvCmpeqSciH (rd rs1 : Reg) (imm6 : BitVec 6)
  | cvCmpeqB (rd rs1 rs2 : Reg)
  | cvCmpeqScB (rd rs1 rs2 : Reg)
  | cvCmpeqSciB (rd rs1 : Reg) (imm6 : BitVec 6)
  | cvCmpneH (rd rs1 rs2 : Reg)
  | cvCmpneScH (rd rs1 rs2 : Reg)
  | cvCmpneSciH (rd rs1 : Reg) (imm6 : BitVec 6)
  | cvCmpneB (rd rs1 rs2 : Reg)
  | cvCmpneScB (rd rs1 rs2 : Reg)
  | cvCmpneSciB (rd rs1 : Reg) (imm6 : BitVec 6)
  | cvCmpgtH (rd rs1 rs2 : Reg)
  | cvCmpgtScH (rd rs1 rs2 : Reg)
  | cvCmpgtSciH (rd rs1 : Reg) (imm6 : BitVec 6)
  | cvCmpgtB (rd rs1 rs2 : Reg)
  | cvCmpgtScB (rd rs1 rs2 : Reg)
  | cvCmpgtSciB (rd rs1 : Reg) (imm6 : BitVec 6)
  | cvCmpgeH (rd rs1 rs2 : Reg)
  | cvCmpgeScH (rd rs1 rs2 : Reg)
  | cvCmpgeSciH (rd rs1 : Reg) (imm6 : BitVec 6)
  | cvCmpgeB (rd rs1 rs2 : Reg)
  | cvCmpgeScB (rd rs1 rs2 : Reg)
  | cvCmpgeSciB (rd rs1 : Reg) (imm6 : BitVec 6)
  | cvCmpltH (rd rs1 rs2 : Reg)
  | cvCmpltScH (rd rs1 rs2 : Reg)
  | cvCmpltSciH (rd rs1 : Reg) (imm6 : BitVec 6)
  | cvCmpltB (rd rs1 rs2 : Reg)
  | cvCmpltScB (rd rs1 rs2 : Reg)
  | cvCmpltSciB (rd rs1 : Reg) (imm6 : BitVec 6)
  | cvCmpleH (rd rs1 rs2 : Reg)
  | cvCmpleScH (rd rs1 rs2 : Reg)
  | cvCmpleSciH (rd rs1 : Reg) (imm6 : BitVec 6)
  | cvCmpleB (rd rs1 rs2 : Reg)
  | cvCmpleScB (rd rs1 rs2 : Reg)
  | cvCmpleSciB (rd rs1 : Reg) (imm6 : BitVec 6)
  | cvCmpgtuH (rd rs1 rs2 : Reg)
  | cvCmpgtuScH (rd rs1 rs2 : Reg)
  | cvCmpgtuSciH (rd rs1 : Reg) (imm6 : BitVec 6)
  | cvCmpgtuB (rd rs1 rs2 : Reg)
  | cvCmpgtuScB (rd rs1 rs2 : Reg)
  | cvCmpgtuSciB (rd rs1 : Reg) (imm6 : BitVec 6)
  | cvCmpgeuH (rd rs1 rs2 : Reg)
  | cvCmpgeuScH (rd rs1 rs2 : Reg)
  | cvCmpgeuSciH (rd rs1 : Reg) (imm6 : BitVec 6)
  | cvCmpgeuB (rd rs1 rs2 : Reg)
  | cvCmpgeuScB (rd rs1 rs2 : Reg)
  | cvCmpgeuSciB (rd rs1 : Reg) (imm6 : BitVec 6)
  | cvCmpltuH (rd rs1 rs2 : Reg)
  | cvCmpltuScH (rd rs1 rs2 : Reg)
  | cvCmpltuSciH (rd rs1 : Reg) (imm6 : BitVec 6)
  | cvCmpltuB (rd rs1 rs2 : Reg)
  | cvCmpltuScB (rd rs1 rs2 : Reg)
  | cvCmpltuSciB (rd rs1 : Reg) (imm6 : BitVec 6)
  | cvCmpleuH (rd rs1 rs2 : Reg)
  | cvCmpleuScH (rd rs1 rs2 : Reg)
  | cvCmpleuSciH (rd rs1 : Reg) (imm6 : BitVec 6)
  | cvCmpleuB (rd rs1 rs2 : Reg)
  | cvCmpleuScB (rd rs1 rs2 : Reg)
  | cvCmpleuSciB (rd rs1 : Reg) (imm6 : BitVec 6)
  | cvCplxmulR (rd rs1 rs2 : Reg)
  | cvCplxmulRDiv2 (rd rs1 rs2 : Reg)
  | cvCplxmulRDiv4 (rd rs1 rs2 : Reg)
  | cvCplxmulRDiv8 (rd rs1 rs2 : Reg)
  | cvCplxmulI (rd rs1 rs2 : Reg)
  | cvCplxmulIDiv2 (rd rs1 rs2 : Reg)
  | cvCplxmulIDiv4 (rd rs1 rs2 : Reg)
  | cvCplxmulIDiv8 (rd rs1 rs2 : Reg)
  | cvCplxconj (rd rs1 : Reg)
  | cvSubrotmj (rd rs1 rs2 : Reg)
  | cvSubrotmjDiv2 (rd rs1 rs2 : Reg)
  | cvSubrotmjDiv4 (rd rs1 rs2 : Reg)
  | cvSubrotmjDiv8 (rd rs1 rs2 : Reg)
  | cvAddDiv2 (rd rs1 rs2 : Reg)
  | cvAddDiv4 (rd rs1 rs2 : Reg)
  | cvAddDiv8 (rd rs1 rs2 : Reg)
  | cvSubDiv2 (rd rs1 rs2 : Reg)
  | cvSubDiv4 (rd rs1 rs2 : Reg)
  | cvSubDiv8 (rd rs1 rs2 : Reg)
  deriving DecidableEq, Repr

end Sys2Proof
end

