-- ==== Sys2Proof/Machine/Dispatch.lean ====
section
/-! DEFINITION. Which meaning each instruction has: one arm per constructor, each one call. -/

namespace Sys2Proof.Machine

def exec (i : Instr) (s : State) : Host.Outcome State Fault Refusal :=
  match i with
  | .lui rd imm => Sys2Proof.Machine.execLui rd imm s
  | .auipc rd imm => Sys2Proof.Machine.execAuipc rd imm s
  | .jal rd imm => Sys2Proof.Machine.execJal rd imm s
  | .jalr rd rs1 imm => Sys2Proof.Machine.execJalr rd rs1 imm s
  | .beq rs1 rs2 imm => Sys2Proof.Machine.execBeq rs1 rs2 imm s
  | .bne rs1 rs2 imm => Sys2Proof.Machine.execBne rs1 rs2 imm s
  | .blt rs1 rs2 imm => Sys2Proof.Machine.execBlt rs1 rs2 imm s
  | .bge rs1 rs2 imm => Sys2Proof.Machine.execBge rs1 rs2 imm s
  | .bltu rs1 rs2 imm => Sys2Proof.Machine.execBltu rs1 rs2 imm s
  | .bgeu rs1 rs2 imm => Sys2Proof.Machine.execBgeu rs1 rs2 imm s
  | .lb rd rs1 imm => Sys2Proof.Machine.execLb rd rs1 imm s
  | .lh rd rs1 imm => Sys2Proof.Machine.execLh rd rs1 imm s
  | .lw rd rs1 imm => Sys2Proof.Machine.execLw rd rs1 imm s
  | .lbu rd rs1 imm => Sys2Proof.Machine.execLbu rd rs1 imm s
  | .lhu rd rs1 imm => Sys2Proof.Machine.execLhu rd rs1 imm s
  | .sb rs2 rs1 imm => Sys2Proof.Machine.execSb rs2 rs1 imm s
  | .sh rs2 rs1 imm => Sys2Proof.Machine.execSh rs2 rs1 imm s
  | .sw rs2 rs1 imm => Sys2Proof.Machine.execSw rs2 rs1 imm s
  | .addi rd rs1 imm => Sys2Proof.Machine.execAddi rd rs1 imm s
  | .slti rd rs1 imm => Sys2Proof.Machine.execSlti rd rs1 imm s
  | .sltiu rd rs1 imm => Sys2Proof.Machine.execSltiu rd rs1 imm s
  | .xori rd rs1 imm => Sys2Proof.Machine.execXori rd rs1 imm s
  | .ori rd rs1 imm => Sys2Proof.Machine.execOri rd rs1 imm s
  | .andi rd rs1 imm => Sys2Proof.Machine.execAndi rd rs1 imm s
  | .slli rd rs1 shamt => Sys2Proof.Machine.execSlli rd rs1 shamt s
  | .srli rd rs1 shamt => Sys2Proof.Machine.execSrli rd rs1 shamt s
  | .srai rd rs1 shamt => Sys2Proof.Machine.execSrai rd rs1 shamt s
  | .add rd rs1 rs2 => Sys2Proof.Machine.execAdd rd rs1 rs2 s
  | .sub rd rs1 rs2 => Sys2Proof.Machine.execSub rd rs1 rs2 s
  | .sll rd rs1 rs2 => Sys2Proof.Machine.execSll rd rs1 rs2 s
  | .slt rd rs1 rs2 => Sys2Proof.Machine.execSlt rd rs1 rs2 s
  | .sltu rd rs1 rs2 => Sys2Proof.Machine.execSltu rd rs1 rs2 s
  | .xor rd rs1 rs2 => Sys2Proof.Machine.execXor rd rs1 rs2 s
  | .srl rd rs1 rs2 => Sys2Proof.Machine.execSrl rd rs1 rs2 s
  | .sra rd rs1 rs2 => Sys2Proof.Machine.execSra rd rs1 rs2 s
  | .or rd rs1 rs2 => Sys2Proof.Machine.execOr rd rs1 rs2 s
  | .and rd rs1 rs2 => Sys2Proof.Machine.execAnd rd rs1 rs2 s
  | .ecall => Sys2Proof.Machine.execEcall s
  | .ebreak => Sys2Proof.Machine.execEbreak s
  | .mul rd rs1 rs2 => Sys2Proof.Machine.execMul rd rs1 rs2 s
  | .mulh rd rs1 rs2 => Sys2Proof.Machine.execMulh rd rs1 rs2 s
  | .mulhsu rd rs1 rs2 => Sys2Proof.Machine.execMulhsu rd rs1 rs2 s
  | .mulhu rd rs1 rs2 => Sys2Proof.Machine.execMulhu rd rs1 rs2 s
  | .div rd rs1 rs2 => Sys2Proof.Machine.execDiv rd rs1 rs2 s
  | .divu rd rs1 rs2 => Sys2Proof.Machine.execDivu rd rs1 rs2 s
  | .rem rd rs1 rs2 => Sys2Proof.Machine.execRem rd rs1 rs2 s
  | .remu rd rs1 rs2 => Sys2Proof.Machine.execRemu rd rs1 rs2 s
  | .cAddi4spn rd imm => Sys2Proof.Machine.execCAddi4spn rd imm s
  | .cLw rd rs1 imm => Sys2Proof.Machine.execCLw rd rs1 imm s
  | .cSw rs2 rs1 imm => Sys2Proof.Machine.execCSw rs2 rs1 imm s
  | .cFlw rd rs1 imm => Sys2Proof.Machine.execCFlw rd rs1 imm s
  | .cFsw rs2 rs1 imm => Sys2Proof.Machine.execCFsw rs2 rs1 imm s
  | .cNop imm => Sys2Proof.Machine.execCNop imm s
  | .cAddi rd imm => Sys2Proof.Machine.execCAddi rd imm s
  | .cJal imm => Sys2Proof.Machine.execCJal imm s
  | .cLi rd imm => Sys2Proof.Machine.execCLi rd imm s
  | .cAddi16sp imm => Sys2Proof.Machine.execCAddi16sp imm s
  | .cLui rd imm => Sys2Proof.Machine.execCLui rd imm s
  | .cSrli rd shamt => Sys2Proof.Machine.execCSrli rd shamt s
  | .cSrai rd shamt => Sys2Proof.Machine.execCSrai rd shamt s
  | .cAndi rd imm => Sys2Proof.Machine.execCAndi rd imm s
  | .cSub rd rs2 => Sys2Proof.Machine.execCSub rd rs2 s
  | .cXor rd rs2 => Sys2Proof.Machine.execCXor rd rs2 s
  | .cOr rd rs2 => Sys2Proof.Machine.execCOr rd rs2 s
  | .cAnd rd rs2 => Sys2Proof.Machine.execCAnd rd rs2 s
  | .cJ imm => Sys2Proof.Machine.execCJ imm s
  | .cBeqz rs1 imm => Sys2Proof.Machine.execCBeqz rs1 imm s
  | .cBnez rs1 imm => Sys2Proof.Machine.execCBnez rs1 imm s
  | .cSlli rd shamt => Sys2Proof.Machine.execCSlli rd shamt s
  | .cLwsp rd imm => Sys2Proof.Machine.execCLwsp rd imm s
  | .cFlwsp rd imm => Sys2Proof.Machine.execCFlwsp rd imm s
  | .cJr rs1 => Sys2Proof.Machine.execCJr rs1 s
  | .cMv rd rs2 => Sys2Proof.Machine.execCMv rd rs2 s
  | .cEbreak => Sys2Proof.Machine.execCEbreak s
  | .cJalr rs1 => Sys2Proof.Machine.execCJalr rs1 s
  | .cAdd rd rs2 => Sys2Proof.Machine.execCAdd rd rs2 s
  | .cSwsp rs2 imm => Sys2Proof.Machine.execCSwsp rs2 imm s
  | .cFswsp rs2 imm => Sys2Proof.Machine.execCFswsp rs2 imm s
  | .csrrw rd csr rs1 => Sys2Proof.Machine.execCsrrw rd csr rs1 s
  | .csrrs rd csr rs1 => Sys2Proof.Machine.execCsrrs rd csr rs1 s
  | .csrrc rd csr rs1 => Sys2Proof.Machine.execCsrrc rd csr rs1 s
  | .csrrwi rd csr uimm => Sys2Proof.Machine.execCsrrwi rd csr uimm s
  | .csrrsi rd csr uimm => Sys2Proof.Machine.execCsrrsi rd csr uimm s
  | .csrrci rd csr uimm => Sys2Proof.Machine.execCsrrci rd csr uimm s
  | .fence imm rs1 rd => Sys2Proof.Machine.execFence imm rs1 rd s
  | .fenceI imm rs1 rd => Sys2Proof.Machine.execFenceI imm rs1 rd s
  | .mret => Sys2Proof.Machine.execMret s
  | .dret => Sys2Proof.Machine.execDret s
  | .wfi => Sys2Proof.Machine.execWfi s
  | .flw rd rs1 imm => Sys2Proof.Machine.execFlw rd rs1 imm s
  | .fsw rs2 rs1 imm => Sys2Proof.Machine.execFsw rs2 rs1 imm s
  | .fmaddS rd rs1 rs2 rs3 rm => Sys2Proof.Machine.execFmaddS rd rs1 rs2 rs3 rm s
  | .fmsubS rd rs1 rs2 rs3 rm => Sys2Proof.Machine.execFmsubS rd rs1 rs2 rs3 rm s
  | .fnmsubS rd rs1 rs2 rs3 rm => Sys2Proof.Machine.execFnmsubS rd rs1 rs2 rs3 rm s
  | .fnmaddS rd rs1 rs2 rs3 rm => Sys2Proof.Machine.execFnmaddS rd rs1 rs2 rs3 rm s
  | .faddS rd rs1 rs2 rm => Sys2Proof.Machine.execFaddS rd rs1 rs2 rm s
  | .fsubS rd rs1 rs2 rm => Sys2Proof.Machine.execFsubS rd rs1 rs2 rm s
  | .fmulS rd rs1 rs2 rm => Sys2Proof.Machine.execFmulS rd rs1 rs2 rm s
  | .fdivS rd rs1 rs2 rm => Sys2Proof.Machine.execFdivS rd rs1 rs2 rm s
  | .fsqrtS rd rs1 rm => Sys2Proof.Machine.execFsqrtS rd rs1 rm s
  | .fsgnjS rd rs1 rs2 => Sys2Proof.Machine.execFsgnjS rd rs1 rs2 s
  | .fsgnjnS rd rs1 rs2 => Sys2Proof.Machine.execFsgnjnS rd rs1 rs2 s
  | .fsgnjxS rd rs1 rs2 => Sys2Proof.Machine.execFsgnjxS rd rs1 rs2 s
  | .fminS rd rs1 rs2 => Sys2Proof.Machine.execFminS rd rs1 rs2 s
  | .fmaxS rd rs1 rs2 => Sys2Proof.Machine.execFmaxS rd rs1 rs2 s
  | .fcvtWS rd rs1 rm => Sys2Proof.Machine.execFcvtWS rd rs1 rm s
  | .fcvtWuS rd rs1 rm => Sys2Proof.Machine.execFcvtWuS rd rs1 rm s
  | .fmvXW rd rs1 => Sys2Proof.Machine.execFmvXW rd rs1 s
  | .feqS rd rs1 rs2 => Sys2Proof.Machine.execFeqS rd rs1 rs2 s
  | .fltS rd rs1 rs2 => Sys2Proof.Machine.execFltS rd rs1 rs2 s
  | .fleS rd rs1 rs2 => Sys2Proof.Machine.execFleS rd rs1 rs2 s
  | .fclassS rd rs1 => Sys2Proof.Machine.execFclassS rd rs1 s
  | .fcvtSW rd rs1 rm => Sys2Proof.Machine.execFcvtSW rd rs1 rm s
  | .fcvtSWu rd rs1 rm => Sys2Proof.Machine.execFcvtSWu rd rs1 rm s
  | .fmvWX rd rs1 => Sys2Proof.Machine.execFmvWX rd rs1 s
  | .cvLbPostImm rd rs1 imm => Sys2Proof.Machine.execCvLbPostImm rd rs1 imm s
  | .cvLbuPostImm rd rs1 imm => Sys2Proof.Machine.execCvLbuPostImm rd rs1 imm s
  | .cvLhPostImm rd rs1 imm => Sys2Proof.Machine.execCvLhPostImm rd rs1 imm s
  | .cvLhuPostImm rd rs1 imm => Sys2Proof.Machine.execCvLhuPostImm rd rs1 imm s
  | .cvLwPostImm rd rs1 imm => Sys2Proof.Machine.execCvLwPostImm rd rs1 imm s
  | .cvLbPostReg rd rs1 rs2 => Sys2Proof.Machine.execCvLbPostReg rd rs1 rs2 s
  | .cvLbuPostReg rd rs1 rs2 => Sys2Proof.Machine.execCvLbuPostReg rd rs1 rs2 s
  | .cvLhPostReg rd rs1 rs2 => Sys2Proof.Machine.execCvLhPostReg rd rs1 rs2 s
  | .cvLhuPostReg rd rs1 rs2 => Sys2Proof.Machine.execCvLhuPostReg rd rs1 rs2 s
  | .cvLwPostReg rd rs1 rs2 => Sys2Proof.Machine.execCvLwPostReg rd rs1 rs2 s
  | .cvLbIdx rd rs1 rs2 => Sys2Proof.Machine.execCvLbIdx rd rs1 rs2 s
  | .cvLbuIdx rd rs1 rs2 => Sys2Proof.Machine.execCvLbuIdx rd rs1 rs2 s
  | .cvLhIdx rd rs1 rs2 => Sys2Proof.Machine.execCvLhIdx rd rs1 rs2 s
  | .cvLhuIdx rd rs1 rs2 => Sys2Proof.Machine.execCvLhuIdx rd rs1 rs2 s
  | .cvLwIdx rd rs1 rs2 => Sys2Proof.Machine.execCvLwIdx rd rs1 rs2 s
  | .cvSbPostImm rs2 rs1 imm => Sys2Proof.Machine.execCvSbPostImm rs2 rs1 imm s
  | .cvShPostImm rs2 rs1 imm => Sys2Proof.Machine.execCvShPostImm rs2 rs1 imm s
  | .cvSwPostImm rs2 rs1 imm => Sys2Proof.Machine.execCvSwPostImm rs2 rs1 imm s
  | .cvSbPostReg rs2 rs1 rs3 => Sys2Proof.Machine.execCvSbPostReg rs2 rs1 rs3 s
  | .cvShPostReg rs2 rs1 rs3 => Sys2Proof.Machine.execCvShPostReg rs2 rs1 rs3 s
  | .cvSwPostReg rs2 rs1 rs3 => Sys2Proof.Machine.execCvSwPostReg rs2 rs1 rs3 s
  | .cvSbIdx rs2 rs1 rs3 => Sys2Proof.Machine.execCvSbIdx rs2 rs1 rs3 s
  | .cvShIdx rs2 rs1 rs3 => Sys2Proof.Machine.execCvShIdx rs2 rs1 rs3 s
  | .cvSwIdx rs2 rs1 rs3 => Sys2Proof.Machine.execCvSwIdx rs2 rs1 rs3 s
  | .cvElw rd rs1 imm => Sys2Proof.Machine.execCvElw rd rs1 imm s
  | .cvStarti l uimmL => Sys2Proof.Machine.execCvStarti l uimmL s
  | .cvStart l rs1 => Sys2Proof.Machine.execCvStart l rs1 s
  | .cvEndi l uimmL => Sys2Proof.Machine.execCvEndi l uimmL s
  | .cvEnd l rs1 => Sys2Proof.Machine.execCvEnd l rs1 s
  | .cvCounti l uimmL => Sys2Proof.Machine.execCvCounti l uimmL s
  | .cvCount l rs1 => Sys2Proof.Machine.execCvCount l rs1 s
  | .cvSetupi l uimmL uimmS => Sys2Proof.Machine.execCvSetupi l uimmL uimmS s
  | .cvSetup l rs1 uimmL => Sys2Proof.Machine.execCvSetup l rs1 uimmL s
  | .cvExtract rd rs1 is3 is2 => Sys2Proof.Machine.execCvExtract rd rs1 is3 is2 s
  | .cvExtractu rd rs1 is3 is2 => Sys2Proof.Machine.execCvExtractu rd rs1 is3 is2 s
  | .cvInsert rd rs1 is3 is2 => Sys2Proof.Machine.execCvInsert rd rs1 is3 is2 s
  | .cvBclr rd rs1 is3 is2 => Sys2Proof.Machine.execCvBclr rd rs1 is3 is2 s
  | .cvBset rd rs1 is3 is2 => Sys2Proof.Machine.execCvBset rd rs1 is3 is2 s
  | .cvBitrev rd rs1 is3 is2 => Sys2Proof.Machine.execCvBitrev rd rs1 is3 is2 s
  | .cvExtractr rd rs1 rs2 => Sys2Proof.Machine.execCvExtractr rd rs1 rs2 s
  | .cvExtractur rd rs1 rs2 => Sys2Proof.Machine.execCvExtractur rd rs1 rs2 s
  | .cvInsertr rd rs1 rs2 => Sys2Proof.Machine.execCvInsertr rd rs1 rs2 s
  | .cvBclrr rd rs1 rs2 => Sys2Proof.Machine.execCvBclrr rd rs1 rs2 s
  | .cvBsetr rd rs1 rs2 => Sys2Proof.Machine.execCvBsetr rd rs1 rs2 s
  | .cvRor rd rs1 rs2 => Sys2Proof.Machine.execCvRor rd rs1 rs2 s
  | .cvFf1 rd rs1 => Sys2Proof.Machine.execCvFf1 rd rs1 s
  | .cvFl1 rd rs1 => Sys2Proof.Machine.execCvFl1 rd rs1 s
  | .cvClb rd rs1 => Sys2Proof.Machine.execCvClb rd rs1 s
  | .cvCnt rd rs1 => Sys2Proof.Machine.execCvCnt rd rs1 s
  | .cvAbs rd rs1 => Sys2Proof.Machine.execCvAbs rd rs1 s
  | .cvSle rd rs1 rs2 => Sys2Proof.Machine.execCvSle rd rs1 rs2 s
  | .cvSleu rd rs1 rs2 => Sys2Proof.Machine.execCvSleu rd rs1 rs2 s
  | .cvMin rd rs1 rs2 => Sys2Proof.Machine.execCvMin rd rs1 rs2 s
  | .cvMinu rd rs1 rs2 => Sys2Proof.Machine.execCvMinu rd rs1 rs2 s
  | .cvMax rd rs1 rs2 => Sys2Proof.Machine.execCvMax rd rs1 rs2 s
  | .cvMaxu rd rs1 rs2 => Sys2Proof.Machine.execCvMaxu rd rs1 rs2 s
  | .cvExths rd rs1 => Sys2Proof.Machine.execCvExths rd rs1 s
  | .cvExthz rd rs1 => Sys2Proof.Machine.execCvExthz rd rs1 s
  | .cvExtbs rd rs1 => Sys2Proof.Machine.execCvExtbs rd rs1 s
  | .cvExtbz rd rs1 => Sys2Proof.Machine.execCvExtbz rd rs1 s
  | .cvClip rd rs1 is2 => Sys2Proof.Machine.execCvClip rd rs1 is2 s
  | .cvClipu rd rs1 is2 => Sys2Proof.Machine.execCvClipu rd rs1 is2 s
  | .cvClipr rd rs1 rs2 => Sys2Proof.Machine.execCvClipr rd rs1 rs2 s
  | .cvClipur rd rs1 rs2 => Sys2Proof.Machine.execCvClipur rd rs1 rs2 s
  | .cvAddN rd rs1 rs2 is3 => Sys2Proof.Machine.execCvAddN rd rs1 rs2 is3 s
  | .cvAdduN rd rs1 rs2 is3 => Sys2Proof.Machine.execCvAdduN rd rs1 rs2 is3 s
  | .cvAddRN rd rs1 rs2 is3 => Sys2Proof.Machine.execCvAddRN rd rs1 rs2 is3 s
  | .cvAdduRN rd rs1 rs2 is3 => Sys2Proof.Machine.execCvAdduRN rd rs1 rs2 is3 s
  | .cvSubN rd rs1 rs2 is3 => Sys2Proof.Machine.execCvSubN rd rs1 rs2 is3 s
  | .cvSubuN rd rs1 rs2 is3 => Sys2Proof.Machine.execCvSubuN rd rs1 rs2 is3 s
  | .cvSubRN rd rs1 rs2 is3 => Sys2Proof.Machine.execCvSubRN rd rs1 rs2 is3 s
  | .cvSubuRN rd rs1 rs2 is3 => Sys2Proof.Machine.execCvSubuRN rd rs1 rs2 is3 s
  | .cvAddNr rd rs1 rs2 => Sys2Proof.Machine.execCvAddNr rd rs1 rs2 s
  | .cvAdduNr rd rs1 rs2 => Sys2Proof.Machine.execCvAdduNr rd rs1 rs2 s
  | .cvAddRNr rd rs1 rs2 => Sys2Proof.Machine.execCvAddRNr rd rs1 rs2 s
  | .cvAdduRNr rd rs1 rs2 => Sys2Proof.Machine.execCvAdduRNr rd rs1 rs2 s
  | .cvSubNr rd rs1 rs2 => Sys2Proof.Machine.execCvSubNr rd rs1 rs2 s
  | .cvSubuNr rd rs1 rs2 => Sys2Proof.Machine.execCvSubuNr rd rs1 rs2 s
  | .cvSubRNr rd rs1 rs2 => Sys2Proof.Machine.execCvSubRNr rd rs1 rs2 s
  | .cvSubuRNr rd rs1 rs2 => Sys2Proof.Machine.execCvSubuRNr rd rs1 rs2 s
  | .cvBeqimm rs1 imm5 imm => Sys2Proof.Machine.execCvBeqimm rs1 imm5 imm s
  | .cvBneimm rs1 imm5 imm => Sys2Proof.Machine.execCvBneimm rs1 imm5 imm s
  | .cvMuluN rd rs1 rs2 is3 => Sys2Proof.Machine.execCvMuluN rd rs1 rs2 is3 s
  | .cvMulhhuN rd rs1 rs2 is3 => Sys2Proof.Machine.execCvMulhhuN rd rs1 rs2 is3 s
  | .cvMulsN rd rs1 rs2 is3 => Sys2Proof.Machine.execCvMulsN rd rs1 rs2 is3 s
  | .cvMulhhsN rd rs1 rs2 is3 => Sys2Proof.Machine.execCvMulhhsN rd rs1 rs2 is3 s
  | .cvMuluRN rd rs1 rs2 is3 => Sys2Proof.Machine.execCvMuluRN rd rs1 rs2 is3 s
  | .cvMulhhuRN rd rs1 rs2 is3 => Sys2Proof.Machine.execCvMulhhuRN rd rs1 rs2 is3 s
  | .cvMulsRN rd rs1 rs2 is3 => Sys2Proof.Machine.execCvMulsRN rd rs1 rs2 is3 s
  | .cvMulhhsRN rd rs1 rs2 is3 => Sys2Proof.Machine.execCvMulhhsRN rd rs1 rs2 is3 s
  | .cvMacuN rd rs1 rs2 is3 => Sys2Proof.Machine.execCvMacuN rd rs1 rs2 is3 s
  | .cvMachhuN rd rs1 rs2 is3 => Sys2Proof.Machine.execCvMachhuN rd rs1 rs2 is3 s
  | .cvMacsN rd rs1 rs2 is3 => Sys2Proof.Machine.execCvMacsN rd rs1 rs2 is3 s
  | .cvMachhsN rd rs1 rs2 is3 => Sys2Proof.Machine.execCvMachhsN rd rs1 rs2 is3 s
  | .cvMacuRN rd rs1 rs2 is3 => Sys2Proof.Machine.execCvMacuRN rd rs1 rs2 is3 s
  | .cvMachhuRN rd rs1 rs2 is3 => Sys2Proof.Machine.execCvMachhuRN rd rs1 rs2 is3 s
  | .cvMacsRN rd rs1 rs2 is3 => Sys2Proof.Machine.execCvMacsRN rd rs1 rs2 is3 s
  | .cvMachhsRN rd rs1 rs2 is3 => Sys2Proof.Machine.execCvMachhsRN rd rs1 rs2 is3 s
  | .cvMac rd rs1 rs2 => Sys2Proof.Machine.execCvMac rd rs1 rs2 s
  | .cvMsu rd rs1 rs2 => Sys2Proof.Machine.execCvMsu rd rs1 rs2 s
  | .cvAddH rd rs1 rs2 => Sys2Proof.Machine.execCvAddH rd rs1 rs2 s
  | .cvAddScH rd rs1 rs2 => Sys2Proof.Machine.execCvAddScH rd rs1 rs2 s
  | .cvAddSciH rd rs1 imm6 => Sys2Proof.Machine.execCvAddSciH rd rs1 imm6 s
  | .cvAddB rd rs1 rs2 => Sys2Proof.Machine.execCvAddB rd rs1 rs2 s
  | .cvAddScB rd rs1 rs2 => Sys2Proof.Machine.execCvAddScB rd rs1 rs2 s
  | .cvAddSciB rd rs1 imm6 => Sys2Proof.Machine.execCvAddSciB rd rs1 imm6 s
  | .cvSubH rd rs1 rs2 => Sys2Proof.Machine.execCvSubH rd rs1 rs2 s
  | .cvSubScH rd rs1 rs2 => Sys2Proof.Machine.execCvSubScH rd rs1 rs2 s
  | .cvSubSciH rd rs1 imm6 => Sys2Proof.Machine.execCvSubSciH rd rs1 imm6 s
  | .cvSubB rd rs1 rs2 => Sys2Proof.Machine.execCvSubB rd rs1 rs2 s
  | .cvSubScB rd rs1 rs2 => Sys2Proof.Machine.execCvSubScB rd rs1 rs2 s
  | .cvSubSciB rd rs1 imm6 => Sys2Proof.Machine.execCvSubSciB rd rs1 imm6 s
  | .cvAvgH rd rs1 rs2 => Sys2Proof.Machine.execCvAvgH rd rs1 rs2 s
  | .cvAvgScH rd rs1 rs2 => Sys2Proof.Machine.execCvAvgScH rd rs1 rs2 s
  | .cvAvgSciH rd rs1 imm6 => Sys2Proof.Machine.execCvAvgSciH rd rs1 imm6 s
  | .cvAvgB rd rs1 rs2 => Sys2Proof.Machine.execCvAvgB rd rs1 rs2 s
  | .cvAvgScB rd rs1 rs2 => Sys2Proof.Machine.execCvAvgScB rd rs1 rs2 s
  | .cvAvgSciB rd rs1 imm6 => Sys2Proof.Machine.execCvAvgSciB rd rs1 imm6 s
  | .cvAvguH rd rs1 rs2 => Sys2Proof.Machine.execCvAvguH rd rs1 rs2 s
  | .cvAvguScH rd rs1 rs2 => Sys2Proof.Machine.execCvAvguScH rd rs1 rs2 s
  | .cvAvguSciH rd rs1 imm6 => Sys2Proof.Machine.execCvAvguSciH rd rs1 imm6 s
  | .cvAvguB rd rs1 rs2 => Sys2Proof.Machine.execCvAvguB rd rs1 rs2 s
  | .cvAvguScB rd rs1 rs2 => Sys2Proof.Machine.execCvAvguScB rd rs1 rs2 s
  | .cvAvguSciB rd rs1 imm6 => Sys2Proof.Machine.execCvAvguSciB rd rs1 imm6 s
  | .cvMinH rd rs1 rs2 => Sys2Proof.Machine.execCvMinH rd rs1 rs2 s
  | .cvMinScH rd rs1 rs2 => Sys2Proof.Machine.execCvMinScH rd rs1 rs2 s
  | .cvMinSciH rd rs1 imm6 => Sys2Proof.Machine.execCvMinSciH rd rs1 imm6 s
  | .cvMinB rd rs1 rs2 => Sys2Proof.Machine.execCvMinB rd rs1 rs2 s
  | .cvMinScB rd rs1 rs2 => Sys2Proof.Machine.execCvMinScB rd rs1 rs2 s
  | .cvMinSciB rd rs1 imm6 => Sys2Proof.Machine.execCvMinSciB rd rs1 imm6 s
  | .cvMinuH rd rs1 rs2 => Sys2Proof.Machine.execCvMinuH rd rs1 rs2 s
  | .cvMinuScH rd rs1 rs2 => Sys2Proof.Machine.execCvMinuScH rd rs1 rs2 s
  | .cvMinuSciH rd rs1 imm6 => Sys2Proof.Machine.execCvMinuSciH rd rs1 imm6 s
  | .cvMinuB rd rs1 rs2 => Sys2Proof.Machine.execCvMinuB rd rs1 rs2 s
  | .cvMinuScB rd rs1 rs2 => Sys2Proof.Machine.execCvMinuScB rd rs1 rs2 s
  | .cvMinuSciB rd rs1 imm6 => Sys2Proof.Machine.execCvMinuSciB rd rs1 imm6 s
  | .cvMaxH rd rs1 rs2 => Sys2Proof.Machine.execCvMaxH rd rs1 rs2 s
  | .cvMaxScH rd rs1 rs2 => Sys2Proof.Machine.execCvMaxScH rd rs1 rs2 s
  | .cvMaxSciH rd rs1 imm6 => Sys2Proof.Machine.execCvMaxSciH rd rs1 imm6 s
  | .cvMaxB rd rs1 rs2 => Sys2Proof.Machine.execCvMaxB rd rs1 rs2 s
  | .cvMaxScB rd rs1 rs2 => Sys2Proof.Machine.execCvMaxScB rd rs1 rs2 s
  | .cvMaxSciB rd rs1 imm6 => Sys2Proof.Machine.execCvMaxSciB rd rs1 imm6 s
  | .cvMaxuH rd rs1 rs2 => Sys2Proof.Machine.execCvMaxuH rd rs1 rs2 s
  | .cvMaxuScH rd rs1 rs2 => Sys2Proof.Machine.execCvMaxuScH rd rs1 rs2 s
  | .cvMaxuSciH rd rs1 imm6 => Sys2Proof.Machine.execCvMaxuSciH rd rs1 imm6 s
  | .cvMaxuB rd rs1 rs2 => Sys2Proof.Machine.execCvMaxuB rd rs1 rs2 s
  | .cvMaxuScB rd rs1 rs2 => Sys2Proof.Machine.execCvMaxuScB rd rs1 rs2 s
  | .cvMaxuSciB rd rs1 imm6 => Sys2Proof.Machine.execCvMaxuSciB rd rs1 imm6 s
  | .cvSrlH rd rs1 rs2 => Sys2Proof.Machine.execCvSrlH rd rs1 rs2 s
  | .cvSrlScH rd rs1 rs2 => Sys2Proof.Machine.execCvSrlScH rd rs1 rs2 s
  | .cvSrlSciH rd rs1 imm6 => Sys2Proof.Machine.execCvSrlSciH rd rs1 imm6 s
  | .cvSrlB rd rs1 rs2 => Sys2Proof.Machine.execCvSrlB rd rs1 rs2 s
  | .cvSrlScB rd rs1 rs2 => Sys2Proof.Machine.execCvSrlScB rd rs1 rs2 s
  | .cvSrlSciB rd rs1 imm6 => Sys2Proof.Machine.execCvSrlSciB rd rs1 imm6 s
  | .cvSraH rd rs1 rs2 => Sys2Proof.Machine.execCvSraH rd rs1 rs2 s
  | .cvSraScH rd rs1 rs2 => Sys2Proof.Machine.execCvSraScH rd rs1 rs2 s
  | .cvSraSciH rd rs1 imm6 => Sys2Proof.Machine.execCvSraSciH rd rs1 imm6 s
  | .cvSraB rd rs1 rs2 => Sys2Proof.Machine.execCvSraB rd rs1 rs2 s
  | .cvSraScB rd rs1 rs2 => Sys2Proof.Machine.execCvSraScB rd rs1 rs2 s
  | .cvSraSciB rd rs1 imm6 => Sys2Proof.Machine.execCvSraSciB rd rs1 imm6 s
  | .cvSllH rd rs1 rs2 => Sys2Proof.Machine.execCvSllH rd rs1 rs2 s
  | .cvSllScH rd rs1 rs2 => Sys2Proof.Machine.execCvSllScH rd rs1 rs2 s
  | .cvSllSciH rd rs1 imm6 => Sys2Proof.Machine.execCvSllSciH rd rs1 imm6 s
  | .cvSllB rd rs1 rs2 => Sys2Proof.Machine.execCvSllB rd rs1 rs2 s
  | .cvSllScB rd rs1 rs2 => Sys2Proof.Machine.execCvSllScB rd rs1 rs2 s
  | .cvSllSciB rd rs1 imm6 => Sys2Proof.Machine.execCvSllSciB rd rs1 imm6 s
  | .cvOrH rd rs1 rs2 => Sys2Proof.Machine.execCvOrH rd rs1 rs2 s
  | .cvOrScH rd rs1 rs2 => Sys2Proof.Machine.execCvOrScH rd rs1 rs2 s
  | .cvOrSciH rd rs1 imm6 => Sys2Proof.Machine.execCvOrSciH rd rs1 imm6 s
  | .cvOrB rd rs1 rs2 => Sys2Proof.Machine.execCvOrB rd rs1 rs2 s
  | .cvOrScB rd rs1 rs2 => Sys2Proof.Machine.execCvOrScB rd rs1 rs2 s
  | .cvOrSciB rd rs1 imm6 => Sys2Proof.Machine.execCvOrSciB rd rs1 imm6 s
  | .cvXorH rd rs1 rs2 => Sys2Proof.Machine.execCvXorH rd rs1 rs2 s
  | .cvXorScH rd rs1 rs2 => Sys2Proof.Machine.execCvXorScH rd rs1 rs2 s
  | .cvXorSciH rd rs1 imm6 => Sys2Proof.Machine.execCvXorSciH rd rs1 imm6 s
  | .cvXorB rd rs1 rs2 => Sys2Proof.Machine.execCvXorB rd rs1 rs2 s
  | .cvXorScB rd rs1 rs2 => Sys2Proof.Machine.execCvXorScB rd rs1 rs2 s
  | .cvXorSciB rd rs1 imm6 => Sys2Proof.Machine.execCvXorSciB rd rs1 imm6 s
  | .cvAndH rd rs1 rs2 => Sys2Proof.Machine.execCvAndH rd rs1 rs2 s
  | .cvAndScH rd rs1 rs2 => Sys2Proof.Machine.execCvAndScH rd rs1 rs2 s
  | .cvAndSciH rd rs1 imm6 => Sys2Proof.Machine.execCvAndSciH rd rs1 imm6 s
  | .cvAndB rd rs1 rs2 => Sys2Proof.Machine.execCvAndB rd rs1 rs2 s
  | .cvAndScB rd rs1 rs2 => Sys2Proof.Machine.execCvAndScB rd rs1 rs2 s
  | .cvAndSciB rd rs1 imm6 => Sys2Proof.Machine.execCvAndSciB rd rs1 imm6 s
  | .cvAbsH rd rs1 => Sys2Proof.Machine.execCvAbsH rd rs1 s
  | .cvAbsB rd rs1 => Sys2Proof.Machine.execCvAbsB rd rs1 s
  | .cvExtractH rd rs1 imm6 => Sys2Proof.Machine.execCvExtractH rd rs1 imm6 s
  | .cvExtractB rd rs1 imm6 => Sys2Proof.Machine.execCvExtractB rd rs1 imm6 s
  | .cvExtractuH rd rs1 imm6 => Sys2Proof.Machine.execCvExtractuH rd rs1 imm6 s
  | .cvExtractuB rd rs1 imm6 => Sys2Proof.Machine.execCvExtractuB rd rs1 imm6 s
  | .cvInsertH rd rs1 imm6 => Sys2Proof.Machine.execCvInsertH rd rs1 imm6 s
  | .cvInsertB rd rs1 imm6 => Sys2Proof.Machine.execCvInsertB rd rs1 imm6 s
  | .cvDotupH rd rs1 rs2 => Sys2Proof.Machine.execCvDotupH rd rs1 rs2 s
  | .cvDotupScH rd rs1 rs2 => Sys2Proof.Machine.execCvDotupScH rd rs1 rs2 s
  | .cvDotupSciH rd rs1 imm6 => Sys2Proof.Machine.execCvDotupSciH rd rs1 imm6 s
  | .cvDotupB rd rs1 rs2 => Sys2Proof.Machine.execCvDotupB rd rs1 rs2 s
  | .cvDotupScB rd rs1 rs2 => Sys2Proof.Machine.execCvDotupScB rd rs1 rs2 s
  | .cvDotupSciB rd rs1 imm6 => Sys2Proof.Machine.execCvDotupSciB rd rs1 imm6 s
  | .cvDotuspH rd rs1 rs2 => Sys2Proof.Machine.execCvDotuspH rd rs1 rs2 s
  | .cvDotuspScH rd rs1 rs2 => Sys2Proof.Machine.execCvDotuspScH rd rs1 rs2 s
  | .cvDotuspSciH rd rs1 imm6 => Sys2Proof.Machine.execCvDotuspSciH rd rs1 imm6 s
  | .cvDotuspB rd rs1 rs2 => Sys2Proof.Machine.execCvDotuspB rd rs1 rs2 s
  | .cvDotuspScB rd rs1 rs2 => Sys2Proof.Machine.execCvDotuspScB rd rs1 rs2 s
  | .cvDotuspSciB rd rs1 imm6 => Sys2Proof.Machine.execCvDotuspSciB rd rs1 imm6 s
  | .cvDotspH rd rs1 rs2 => Sys2Proof.Machine.execCvDotspH rd rs1 rs2 s
  | .cvDotspScH rd rs1 rs2 => Sys2Proof.Machine.execCvDotspScH rd rs1 rs2 s
  | .cvDotspSciH rd rs1 imm6 => Sys2Proof.Machine.execCvDotspSciH rd rs1 imm6 s
  | .cvDotspB rd rs1 rs2 => Sys2Proof.Machine.execCvDotspB rd rs1 rs2 s
  | .cvDotspScB rd rs1 rs2 => Sys2Proof.Machine.execCvDotspScB rd rs1 rs2 s
  | .cvDotspSciB rd rs1 imm6 => Sys2Proof.Machine.execCvDotspSciB rd rs1 imm6 s
  | .cvSdotupH rd rs1 rs2 => Sys2Proof.Machine.execCvSdotupH rd rs1 rs2 s
  | .cvSdotupScH rd rs1 rs2 => Sys2Proof.Machine.execCvSdotupScH rd rs1 rs2 s
  | .cvSdotupSciH rd rs1 imm6 => Sys2Proof.Machine.execCvSdotupSciH rd rs1 imm6 s
  | .cvSdotupB rd rs1 rs2 => Sys2Proof.Machine.execCvSdotupB rd rs1 rs2 s
  | .cvSdotupScB rd rs1 rs2 => Sys2Proof.Machine.execCvSdotupScB rd rs1 rs2 s
  | .cvSdotupSciB rd rs1 imm6 => Sys2Proof.Machine.execCvSdotupSciB rd rs1 imm6 s
  | .cvSdotuspH rd rs1 rs2 => Sys2Proof.Machine.execCvSdotuspH rd rs1 rs2 s
  | .cvSdotuspScH rd rs1 rs2 => Sys2Proof.Machine.execCvSdotuspScH rd rs1 rs2 s
  | .cvSdotuspSciH rd rs1 imm6 => Sys2Proof.Machine.execCvSdotuspSciH rd rs1 imm6 s
  | .cvSdotuspB rd rs1 rs2 => Sys2Proof.Machine.execCvSdotuspB rd rs1 rs2 s
  | .cvSdotuspScB rd rs1 rs2 => Sys2Proof.Machine.execCvSdotuspScB rd rs1 rs2 s
  | .cvSdotuspSciB rd rs1 imm6 => Sys2Proof.Machine.execCvSdotuspSciB rd rs1 imm6 s
  | .cvSdotspH rd rs1 rs2 => Sys2Proof.Machine.execCvSdotspH rd rs1 rs2 s
  | .cvSdotspScH rd rs1 rs2 => Sys2Proof.Machine.execCvSdotspScH rd rs1 rs2 s
  | .cvSdotspSciH rd rs1 imm6 => Sys2Proof.Machine.execCvSdotspSciH rd rs1 imm6 s
  | .cvSdotspB rd rs1 rs2 => Sys2Proof.Machine.execCvSdotspB rd rs1 rs2 s
  | .cvSdotspScB rd rs1 rs2 => Sys2Proof.Machine.execCvSdotspScB rd rs1 rs2 s
  | .cvSdotspSciB rd rs1 imm6 => Sys2Proof.Machine.execCvSdotspSciB rd rs1 imm6 s
  | .cvShuffleH rd rs1 rs2 => Sys2Proof.Machine.execCvShuffleH rd rs1 rs2 s
  | .cvShuffleSciH rd rs1 imm6 => Sys2Proof.Machine.execCvShuffleSciH rd rs1 imm6 s
  | .cvShuffleB rd rs1 rs2 => Sys2Proof.Machine.execCvShuffleB rd rs1 rs2 s
  | .cvShuffleI0SciB rd rs1 imm6 => Sys2Proof.Machine.execCvShuffleI0SciB rd rs1 imm6 s
  | .cvShuffleI1SciB rd rs1 imm6 => Sys2Proof.Machine.execCvShuffleI1SciB rd rs1 imm6 s
  | .cvShuffleI2SciB rd rs1 imm6 => Sys2Proof.Machine.execCvShuffleI2SciB rd rs1 imm6 s
  | .cvShuffleI3SciB rd rs1 imm6 => Sys2Proof.Machine.execCvShuffleI3SciB rd rs1 imm6 s
  | .cvShuffle2H rd rs1 rs2 => Sys2Proof.Machine.execCvShuffle2H rd rs1 rs2 s
  | .cvShuffle2B rd rs1 rs2 => Sys2Proof.Machine.execCvShuffle2B rd rs1 rs2 s
  | .cvPack rd rs1 rs2 => Sys2Proof.Machine.execCvPack rd rs1 rs2 s
  | .cvPackH rd rs1 rs2 => Sys2Proof.Machine.execCvPackH rd rs1 rs2 s
  | .cvPackhiB rd rs1 rs2 => Sys2Proof.Machine.execCvPackhiB rd rs1 rs2 s
  | .cvPackloB rd rs1 rs2 => Sys2Proof.Machine.execCvPackloB rd rs1 rs2 s
  | .cvCmpeqH rd rs1 rs2 => Sys2Proof.Machine.execCvCmpeqH rd rs1 rs2 s
  | .cvCmpeqScH rd rs1 rs2 => Sys2Proof.Machine.execCvCmpeqScH rd rs1 rs2 s
  | .cvCmpeqSciH rd rs1 imm6 => Sys2Proof.Machine.execCvCmpeqSciH rd rs1 imm6 s
  | .cvCmpeqB rd rs1 rs2 => Sys2Proof.Machine.execCvCmpeqB rd rs1 rs2 s
  | .cvCmpeqScB rd rs1 rs2 => Sys2Proof.Machine.execCvCmpeqScB rd rs1 rs2 s
  | .cvCmpeqSciB rd rs1 imm6 => Sys2Proof.Machine.execCvCmpeqSciB rd rs1 imm6 s
  | .cvCmpneH rd rs1 rs2 => Sys2Proof.Machine.execCvCmpneH rd rs1 rs2 s
  | .cvCmpneScH rd rs1 rs2 => Sys2Proof.Machine.execCvCmpneScH rd rs1 rs2 s
  | .cvCmpneSciH rd rs1 imm6 => Sys2Proof.Machine.execCvCmpneSciH rd rs1 imm6 s
  | .cvCmpneB rd rs1 rs2 => Sys2Proof.Machine.execCvCmpneB rd rs1 rs2 s
  | .cvCmpneScB rd rs1 rs2 => Sys2Proof.Machine.execCvCmpneScB rd rs1 rs2 s
  | .cvCmpneSciB rd rs1 imm6 => Sys2Proof.Machine.execCvCmpneSciB rd rs1 imm6 s
  | .cvCmpgtH rd rs1 rs2 => Sys2Proof.Machine.execCvCmpgtH rd rs1 rs2 s
  | .cvCmpgtScH rd rs1 rs2 => Sys2Proof.Machine.execCvCmpgtScH rd rs1 rs2 s
  | .cvCmpgtSciH rd rs1 imm6 => Sys2Proof.Machine.execCvCmpgtSciH rd rs1 imm6 s
  | .cvCmpgtB rd rs1 rs2 => Sys2Proof.Machine.execCvCmpgtB rd rs1 rs2 s
  | .cvCmpgtScB rd rs1 rs2 => Sys2Proof.Machine.execCvCmpgtScB rd rs1 rs2 s
  | .cvCmpgtSciB rd rs1 imm6 => Sys2Proof.Machine.execCvCmpgtSciB rd rs1 imm6 s
  | .cvCmpgeH rd rs1 rs2 => Sys2Proof.Machine.execCvCmpgeH rd rs1 rs2 s
  | .cvCmpgeScH rd rs1 rs2 => Sys2Proof.Machine.execCvCmpgeScH rd rs1 rs2 s
  | .cvCmpgeSciH rd rs1 imm6 => Sys2Proof.Machine.execCvCmpgeSciH rd rs1 imm6 s
  | .cvCmpgeB rd rs1 rs2 => Sys2Proof.Machine.execCvCmpgeB rd rs1 rs2 s
  | .cvCmpgeScB rd rs1 rs2 => Sys2Proof.Machine.execCvCmpgeScB rd rs1 rs2 s
  | .cvCmpgeSciB rd rs1 imm6 => Sys2Proof.Machine.execCvCmpgeSciB rd rs1 imm6 s
  | .cvCmpltH rd rs1 rs2 => Sys2Proof.Machine.execCvCmpltH rd rs1 rs2 s
  | .cvCmpltScH rd rs1 rs2 => Sys2Proof.Machine.execCvCmpltScH rd rs1 rs2 s
  | .cvCmpltSciH rd rs1 imm6 => Sys2Proof.Machine.execCvCmpltSciH rd rs1 imm6 s
  | .cvCmpltB rd rs1 rs2 => Sys2Proof.Machine.execCvCmpltB rd rs1 rs2 s
  | .cvCmpltScB rd rs1 rs2 => Sys2Proof.Machine.execCvCmpltScB rd rs1 rs2 s
  | .cvCmpltSciB rd rs1 imm6 => Sys2Proof.Machine.execCvCmpltSciB rd rs1 imm6 s
  | .cvCmpleH rd rs1 rs2 => Sys2Proof.Machine.execCvCmpleH rd rs1 rs2 s
  | .cvCmpleScH rd rs1 rs2 => Sys2Proof.Machine.execCvCmpleScH rd rs1 rs2 s
  | .cvCmpleSciH rd rs1 imm6 => Sys2Proof.Machine.execCvCmpleSciH rd rs1 imm6 s
  | .cvCmpleB rd rs1 rs2 => Sys2Proof.Machine.execCvCmpleB rd rs1 rs2 s
  | .cvCmpleScB rd rs1 rs2 => Sys2Proof.Machine.execCvCmpleScB rd rs1 rs2 s
  | .cvCmpleSciB rd rs1 imm6 => Sys2Proof.Machine.execCvCmpleSciB rd rs1 imm6 s
  | .cvCmpgtuH rd rs1 rs2 => Sys2Proof.Machine.execCvCmpgtuH rd rs1 rs2 s
  | .cvCmpgtuScH rd rs1 rs2 => Sys2Proof.Machine.execCvCmpgtuScH rd rs1 rs2 s
  | .cvCmpgtuSciH rd rs1 imm6 => Sys2Proof.Machine.execCvCmpgtuSciH rd rs1 imm6 s
  | .cvCmpgtuB rd rs1 rs2 => Sys2Proof.Machine.execCvCmpgtuB rd rs1 rs2 s
  | .cvCmpgtuScB rd rs1 rs2 => Sys2Proof.Machine.execCvCmpgtuScB rd rs1 rs2 s
  | .cvCmpgtuSciB rd rs1 imm6 => Sys2Proof.Machine.execCvCmpgtuSciB rd rs1 imm6 s
  | .cvCmpgeuH rd rs1 rs2 => Sys2Proof.Machine.execCvCmpgeuH rd rs1 rs2 s
  | .cvCmpgeuScH rd rs1 rs2 => Sys2Proof.Machine.execCvCmpgeuScH rd rs1 rs2 s
  | .cvCmpgeuSciH rd rs1 imm6 => Sys2Proof.Machine.execCvCmpgeuSciH rd rs1 imm6 s
  | .cvCmpgeuB rd rs1 rs2 => Sys2Proof.Machine.execCvCmpgeuB rd rs1 rs2 s
  | .cvCmpgeuScB rd rs1 rs2 => Sys2Proof.Machine.execCvCmpgeuScB rd rs1 rs2 s
  | .cvCmpgeuSciB rd rs1 imm6 => Sys2Proof.Machine.execCvCmpgeuSciB rd rs1 imm6 s
  | .cvCmpltuH rd rs1 rs2 => Sys2Proof.Machine.execCvCmpltuH rd rs1 rs2 s
  | .cvCmpltuScH rd rs1 rs2 => Sys2Proof.Machine.execCvCmpltuScH rd rs1 rs2 s
  | .cvCmpltuSciH rd rs1 imm6 => Sys2Proof.Machine.execCvCmpltuSciH rd rs1 imm6 s
  | .cvCmpltuB rd rs1 rs2 => Sys2Proof.Machine.execCvCmpltuB rd rs1 rs2 s
  | .cvCmpltuScB rd rs1 rs2 => Sys2Proof.Machine.execCvCmpltuScB rd rs1 rs2 s
  | .cvCmpltuSciB rd rs1 imm6 => Sys2Proof.Machine.execCvCmpltuSciB rd rs1 imm6 s
  | .cvCmpleuH rd rs1 rs2 => Sys2Proof.Machine.execCvCmpleuH rd rs1 rs2 s
  | .cvCmpleuScH rd rs1 rs2 => Sys2Proof.Machine.execCvCmpleuScH rd rs1 rs2 s
  | .cvCmpleuSciH rd rs1 imm6 => Sys2Proof.Machine.execCvCmpleuSciH rd rs1 imm6 s
  | .cvCmpleuB rd rs1 rs2 => Sys2Proof.Machine.execCvCmpleuB rd rs1 rs2 s
  | .cvCmpleuScB rd rs1 rs2 => Sys2Proof.Machine.execCvCmpleuScB rd rs1 rs2 s
  | .cvCmpleuSciB rd rs1 imm6 => Sys2Proof.Machine.execCvCmpleuSciB rd rs1 imm6 s
  | .cvCplxmulR rd rs1 rs2 => Sys2Proof.Machine.execCvCplxmulR rd rs1 rs2 s
  | .cvCplxmulRDiv2 rd rs1 rs2 => Sys2Proof.Machine.execCvCplxmulRDiv2 rd rs1 rs2 s
  | .cvCplxmulRDiv4 rd rs1 rs2 => Sys2Proof.Machine.execCvCplxmulRDiv4 rd rs1 rs2 s
  | .cvCplxmulRDiv8 rd rs1 rs2 => Sys2Proof.Machine.execCvCplxmulRDiv8 rd rs1 rs2 s
  | .cvCplxmulI rd rs1 rs2 => Sys2Proof.Machine.execCvCplxmulI rd rs1 rs2 s
  | .cvCplxmulIDiv2 rd rs1 rs2 => Sys2Proof.Machine.execCvCplxmulIDiv2 rd rs1 rs2 s
  | .cvCplxmulIDiv4 rd rs1 rs2 => Sys2Proof.Machine.execCvCplxmulIDiv4 rd rs1 rs2 s
  | .cvCplxmulIDiv8 rd rs1 rs2 => Sys2Proof.Machine.execCvCplxmulIDiv8 rd rs1 rs2 s
  | .cvCplxconj rd rs1 => Sys2Proof.Machine.execCvCplxconj rd rs1 s
  | .cvSubrotmj rd rs1 rs2 => Sys2Proof.Machine.execCvSubrotmj rd rs1 rs2 s
  | .cvSubrotmjDiv2 rd rs1 rs2 => Sys2Proof.Machine.execCvSubrotmjDiv2 rd rs1 rs2 s
  | .cvSubrotmjDiv4 rd rs1 rs2 => Sys2Proof.Machine.execCvSubrotmjDiv4 rd rs1 rs2 s
  | .cvSubrotmjDiv8 rd rs1 rs2 => Sys2Proof.Machine.execCvSubrotmjDiv8 rd rs1 rs2 s
  | .cvAddDiv2 rd rs1 rs2 => Sys2Proof.Machine.execCvAddDiv2 rd rs1 rs2 s
  | .cvAddDiv4 rd rs1 rs2 => Sys2Proof.Machine.execCvAddDiv4 rd rs1 rs2 s
  | .cvAddDiv8 rd rs1 rs2 => Sys2Proof.Machine.execCvAddDiv8 rd rs1 rs2 s
  | .cvSubDiv2 rd rs1 rs2 => Sys2Proof.Machine.execCvSubDiv2 rd rs1 rs2 s
  | .cvSubDiv4 rd rs1 rs2 => Sys2Proof.Machine.execCvSubDiv4 rd rs1 rs2 s
  | .cvSubDiv8 rd rs1 rs2 => Sys2Proof.Machine.execCvSubDiv8 rd rs1 rs2 s

end Sys2Proof.Machine
end

