-- ==== Sys2Proof/Decode.lean ====
section
/-! DEFINITION. From bits to instructions and back (spec/30_encoding.md; spec/41_rv32c.md for the 16-bit formats).

The decoder looks at the encoding alone. Whether the parameters of the core provide the instruction (R171), and the checks of
an instruction's own rule (R170), are decided where the instruction executes.

`noncomputable section`: Lean's compiler builds no constructor numbered above 244, and the opcode table has 435 rows. The kernel
evaluates every definition of this file. -/

namespace Sys2Proof

noncomputable section

/-! ### Decoding -/

/-- Why bits are no instruction. Each of these makes the core raise IllegalInstruction (R170), but for `truncated`, which
only a byte list that is too short can give. -/
inductive DecodeError where
  /-- The major opcode is not one of R164. -/
  | undefinedOpcode
  /-- No row of the opcode table has these function bits under this opcode (R164 to R170, R173). -/
  | undefinedFunction
  /-- A field that the table prints as constant zeros is not zero (R172). -/
  | nonzeroField
  /-- A compressed encoding of R293. -/
  | reservedCompressed
  /-- The bytes end before the instruction does. -/
  | truncated
  deriving DecidableEq, Repr

/-- What decoding answers. -/
abbrev Decoded := Except DecodeError Instr

/-- An instruction whose field `z` must be all zeros (R172; 92 D11, notes/assumptions/39.md). -/
def zeroField {n : Nat} (z : BitVec n) (i : Instr) : Decoded :=
  if z = 0 then .ok i else .error .nonzeroField

/-! Immediates of the 32-bit formats (R162, R165), from the fields funct7, rs2, rs1, funct3, rd. -/

/-- I format: bits 31:20. -/
def immI (f7 : BitVec 7) (rs2 : Reg) : BitVec 12 := f7 ++ rs2

/-- S format: bits 31:25 and 11:7. -/
def immS (f7 : BitVec 7) (rd : Reg) : BitVec 12 := f7 ++ rd

/-- B format, bits 12:1 of the offset: instruction bits 31, 7, 30:25, 11:8. -/
def immB (f7 : BitVec 7) (rd : Reg) : BitVec 12 :=
  f7.extractLsb' 6 1 ++ rd.extractLsb' 0 1 ++ f7.extractLsb' 0 6 ++ rd.extractLsb' 1 4

/-- U format: bits 31:12. -/
def immU (f7 : BitVec 7) (rs2 rs1 : Reg) (f3 : BitVec 3) : BitVec 20 := f7 ++ rs2 ++ rs1 ++ f3

/-- J format, bits 20:1 of the offset, from instruction bits 31:12: bits 31, 19:12, 20, 30:21. -/
def immJ (u : BitVec 20) : BitVec 20 :=
  u.extractLsb' 19 1 ++ u.extractLsb' 0 8 ++ u.extractLsb' 8 1 ++ u.extractLsb' 9 10

/-- `Imm6`: bit 0 is instruction bit 25, bits 5:1 are instruction bits 24:20 (R165). -/
def imm6Of (b25 : BitVec 1) (rs2 : Reg) : BitVec 6 := rs2 ++ b25

/-! One function per major opcode (R164); the arguments are the instruction's fields, the highest bits first. -/

/-- LOAD. -/
def decodeLoad (f7 : BitVec 7) (rs2 rs1 : Reg) (f3 : BitVec 3) (rd : Reg) : Decoded :=
  match f3 with
  | 0#3 => .ok (.lb rd rs1 (immI f7 rs2))
  | 1#3 => .ok (.lh rd rs1 (immI f7 rs2))
  | 2#3 => .ok (.lw rd rs1 (immI f7 rs2))
  | 4#3 => .ok (.lbu rd rs1 (immI f7 rs2))
  | 5#3 => .ok (.lhu rd rs1 (immI f7 rs2))
  | _ => .error .undefinedFunction

/-- LOAD-FP. -/
def decodeLoadFp (f7 : BitVec 7) (rs2 rs1 : Reg) (f3 : BitVec 3) (rd : Reg) : Decoded :=
  match f3 with
  | 2#3 => .ok (.flw rd rs1 (immI f7 rs2))
  | _ => .error .undefinedFunction

/-- custom-0 (R169). -/
def decodeCustom0 (f7 : BitVec 7) (rs2 rs1 : Reg) (f3 : BitVec 3) (rd : Reg) : Decoded :=
  match f3 with
  | 0#3 => .ok (.cvLbPostImm rd rs1 (immI f7 rs2))
  | 1#3 => .ok (.cvLhPostImm rd rs1 (immI f7 rs2))
  | 2#3 => .ok (.cvLwPostImm rd rs1 (immI f7 rs2))
  | 3#3 => .ok (.cvElw rd rs1 (immI f7 rs2))
  | 4#3 => .ok (.cvLbuPostImm rd rs1 (immI f7 rs2))
  | 5#3 => .ok (.cvLhuPostImm rd rs1 (immI f7 rs2))
  | 6#3 => .ok (.cvBeqimm rs1 rs2 (immB f7 rd))
  | 7#3 => .ok (.cvBneimm rs1 rs2 (immB f7 rd))
  | _ => .error .undefinedFunction

/-- MISC-MEM: decoded on opcode and funct3 only (R173). -/
def decodeMiscMem (f7 : BitVec 7) (rs2 rs1 : Reg) (f3 : BitVec 3) (rd : Reg) : Decoded :=
  match f3 with
  | 0#3 => .ok (.fence (immI f7 rs2) rs1 rd)
  | 1#3 => .ok (.fenceI (immI f7 rs2) rs1 rd)
  | _ => .error .undefinedFunction

/-- OP-IMM. -/
def decodeOpImm (f7 : BitVec 7) (rs2 rs1 : Reg) (f3 : BitVec 3) (rd : Reg) : Decoded :=
  match f3 with
  | 0#3 => .ok (.addi rd rs1 (immI f7 rs2))
  | 1#3 =>
    match f7 with
    | 0x00#7 => .ok (.slli rd rs1 rs2)
    | _ => .error .undefinedFunction
  | 2#3 => .ok (.slti rd rs1 (immI f7 rs2))
  | 3#3 => .ok (.sltiu rd rs1 (immI f7 rs2))
  | 4#3 => .ok (.xori rd rs1 (immI f7 rs2))
  | 5#3 =>
    match f7 with
    | 0x00#7 => .ok (.srli rd rs1 rs2)
    | 0x20#7 => .ok (.srai rd rs1 rs2)
    | _ => .error .undefinedFunction
  | 6#3 => .ok (.ori rd rs1 (immI f7 rs2))
  | 7#3 => .ok (.andi rd rs1 (immI f7 rs2))

/-- STORE. -/
def decodeStore (f7 : BitVec 7) (rs2 rs1 : Reg) (f3 : BitVec 3) (rd : Reg) : Decoded :=
  match f3 with
  | 0#3 => .ok (.sb rs2 rs1 (immS f7 rd))
  | 1#3 => .ok (.sh rs2 rs1 (immS f7 rd))
  | 2#3 => .ok (.sw rs2 rs1 (immS f7 rd))
  | _ => .error .undefinedFunction

/-- STORE-FP. -/
def decodeStoreFp (f7 : BitVec 7) (rs2 rs1 : Reg) (f3 : BitVec 3) (rd : Reg) : Decoded :=
  match f3 with
  | 2#3 => .ok (.fsw rs2 rs1 (immS f7 rd))
  | _ => .error .undefinedFunction

/-- OP: the base integer operations and the M extension. -/
def decodeOp (f7 : BitVec 7) (rs2 rs1 : Reg) (f3 : BitVec 3) (rd : Reg) : Decoded :=
  match f7 with
  | 0x00#7 =>
    match f3 with
    | 0#3 => .ok (.add rd rs1 rs2)
    | 1#3 => .ok (.sll rd rs1 rs2)
    | 2#3 => .ok (.slt rd rs1 rs2)
    | 3#3 => .ok (.sltu rd rs1 rs2)
    | 4#3 => .ok (.xor rd rs1 rs2)
    | 5#3 => .ok (.srl rd rs1 rs2)
    | 6#3 => .ok (.or rd rs1 rs2)
    | 7#3 => .ok (.and rd rs1 rs2)
  | 0x20#7 =>
    match f3 with
    | 0#3 => .ok (.sub rd rs1 rs2)
    | 5#3 => .ok (.sra rd rs1 rs2)
    | _ => .error .undefinedFunction
  | 0x01#7 =>
    match f3 with
    | 0#3 => .ok (.mul rd rs1 rs2)
    | 1#3 => .ok (.mulh rd rs1 rs2)
    | 2#3 => .ok (.mulhsu rd rs1 rs2)
    | 3#3 => .ok (.mulhu rd rs1 rs2)
    | 4#3 => .ok (.div rd rs1 rs2)
    | 5#3 => .ok (.divu rd rs1 rs2)
    | 6#3 => .ok (.rem rd rs1 rs2)
    | 7#3 => .ok (.remu rd rs1 rs2)
  | _ => .error .undefinedFunction

/-- Hardware loops (R166): `funct4` is bits 11:8, `L` bit 7. -/
def decodeHwLoop (f7 : BitVec 7) (rs2 rs1 rd : Reg) : Decoded :=
  match rd.extractLsb' 1 4 with
  | 0x0#4 => zeroField rs1 (.cvStarti (rd.extractLsb' 0 1) (immI f7 rs2))
  | 0x1#4 => zeroField (immI f7 rs2) (.cvStart (rd.extractLsb' 0 1) rs1)
  | 0x2#4 => zeroField rs1 (.cvEndi (rd.extractLsb' 0 1) (immI f7 rs2))
  | 0x3#4 => zeroField (immI f7 rs2) (.cvEnd (rd.extractLsb' 0 1) rs1)
  | 0x4#4 => zeroField rs1 (.cvCounti (rd.extractLsb' 0 1) (immI f7 rs2))
  | 0x5#4 => zeroField (immI f7 rs2) (.cvCount (rd.extractLsb' 0 1) rs1)
  | 0x6#4 => .ok (.cvSetupi (rd.extractLsb' 0 1) (immI f7 rs2) rs1)
  | 0x7#4 => .ok (.cvSetup (rd.extractLsb' 0 1) rs1 (immI f7 rs2))
  | _ => .error .undefinedFunction

/-- custom-1 with funct3 = 011 (R166). -/
def decodeCustom1R (f7 : BitVec 7) (rs2 rs1 rd : Reg) : Decoded :=
  match f7 with
  | 0x00#7 => .ok (.cvLbPostReg rd rs1 rs2)
  | 0x01#7 => .ok (.cvLhPostReg rd rs1 rs2)
  | 0x02#7 => .ok (.cvLwPostReg rd rs1 rs2)
  | 0x04#7 => .ok (.cvLbIdx rd rs1 rs2)
  | 0x05#7 => .ok (.cvLhIdx rd rs1 rs2)
  | 0x06#7 => .ok (.cvLwIdx rd rs1 rs2)
  | 0x08#7 => .ok (.cvLbuPostReg rd rs1 rs2)
  | 0x09#7 => .ok (.cvLhuPostReg rd rs1 rs2)
  | 0x0c#7 => .ok (.cvLbuIdx rd rs1 rs2)
  | 0x0d#7 => .ok (.cvLhuIdx rd rs1 rs2)
  | 0x10#7 => .ok (.cvSbPostReg rs2 rs1 rd)
  | 0x11#7 => .ok (.cvShPostReg rs2 rs1 rd)
  | 0x12#7 => .ok (.cvSwPostReg rs2 rs1 rd)
  | 0x14#7 => .ok (.cvSbIdx rs2 rs1 rd)
  | 0x15#7 => .ok (.cvShIdx rs2 rs1 rd)
  | 0x16#7 => .ok (.cvSwIdx rs2 rs1 rd)
  | 0x18#7 => .ok (.cvExtractr rd rs1 rs2)
  | 0x19#7 => .ok (.cvExtractur rd rs1 rs2)
  | 0x1a#7 => .ok (.cvInsertr rd rs1 rs2)
  | 0x1c#7 => .ok (.cvBclrr rd rs1 rs2)
  | 0x1d#7 => .ok (.cvBsetr rd rs1 rs2)
  | 0x20#7 => .ok (.cvRor rd rs1 rs2)
  | 0x21#7 => zeroField rs2 (.cvFf1 rd rs1)
  | 0x22#7 => zeroField rs2 (.cvFl1 rd rs1)
  | 0x23#7 => zeroField rs2 (.cvClb rd rs1)
  | 0x24#7 => zeroField rs2 (.cvCnt rd rs1)
  | 0x28#7 => zeroField rs2 (.cvAbs rd rs1)
  | 0x29#7 => .ok (.cvSle rd rs1 rs2)
  | 0x2a#7 => .ok (.cvSleu rd rs1 rs2)
  | 0x2b#7 => .ok (.cvMin rd rs1 rs2)
  | 0x2c#7 => .ok (.cvMinu rd rs1 rs2)
  | 0x2d#7 => .ok (.cvMax rd rs1 rs2)
  | 0x2e#7 => .ok (.cvMaxu rd rs1 rs2)
  | 0x30#7 => zeroField rs2 (.cvExths rd rs1)
  | 0x31#7 => zeroField rs2 (.cvExthz rd rs1)
  | 0x32#7 => zeroField rs2 (.cvExtbs rd rs1)
  | 0x33#7 => zeroField rs2 (.cvExtbz rd rs1)
  | 0x38#7 => .ok (.cvClip rd rs1 rs2)
  | 0x39#7 => .ok (.cvClipu rd rs1 rs2)
  | 0x3a#7 => .ok (.cvClipr rd rs1 rs2)
  | 0x3b#7 => .ok (.cvClipur rd rs1 rs2)
  | 0x40#7 => .ok (.cvAddNr rd rs1 rs2)
  | 0x41#7 => .ok (.cvAdduNr rd rs1 rs2)
  | 0x42#7 => .ok (.cvAddRNr rd rs1 rs2)
  | 0x43#7 => .ok (.cvAdduRNr rd rs1 rs2)
  | 0x44#7 => .ok (.cvSubNr rd rs1 rs2)
  | 0x45#7 => .ok (.cvSubuNr rd rs1 rs2)
  | 0x46#7 => .ok (.cvSubRNr rd rs1 rs2)
  | 0x47#7 => .ok (.cvSubuRNr rd rs1 rs2)
  | 0x48#7 => .ok (.cvMac rd rs1 rs2)
  | 0x49#7 => .ok (.cvMsu rd rs1 rs2)
  | _ => .error .undefinedFunction

/-- custom-1 (R166). -/
def decodeCustom1 (f7 : BitVec 7) (rs2 rs1 : Reg) (f3 : BitVec 3) (rd : Reg) : Decoded :=
  match f3 with
  | 0#3 => .ok (.cvSbPostImm rs2 rs1 (immS f7 rd))
  | 1#3 => .ok (.cvShPostImm rs2 rs1 (immS f7 rd))
  | 2#3 => .ok (.cvSwPostImm rs2 rs1 (immS f7 rd))
  | 3#3 => decodeCustom1R f7 rs2 rs1 rd
  | 4#3 => decodeHwLoop f7 rs2 rs1 rd
  | _ => .error .undefinedFunction

/-- MADD, MSUB, NMSUB, NMADD (R162): bits 31:27 are rs3, bits 26:25 the format, 00 for single precision. -/
def decodeR4 (i : Reg → Instr) (f7 : BitVec 7) : Decoded :=
  match f7.extractLsb' 0 2 with
  | 0#2 => .ok (i (f7.extractLsb' 2 5))
  | _ => .error .undefinedFunction

/-- OP-FP. -/
def decodeOpFp (f7 : BitVec 7) (rs2 rs1 : Reg) (f3 : BitVec 3) (rd : Reg) : Decoded :=
  match f7 with
  | 0x00#7 => .ok (.faddS rd rs1 rs2 f3)
  | 0x04#7 => .ok (.fsubS rd rs1 rs2 f3)
  | 0x08#7 => .ok (.fmulS rd rs1 rs2 f3)
  | 0x0c#7 => .ok (.fdivS rd rs1 rs2 f3)
  | 0x10#7 =>
    match f3 with
    | 0#3 => .ok (.fsgnjS rd rs1 rs2)
    | 1#3 => .ok (.fsgnjnS rd rs1 rs2)
    | 2#3 => .ok (.fsgnjxS rd rs1 rs2)
    | _ => .error .undefinedFunction
  | 0x14#7 =>
    match f3 with
    | 0#3 => .ok (.fminS rd rs1 rs2)
    | 1#3 => .ok (.fmaxS rd rs1 rs2)
    | _ => .error .undefinedFunction
  | 0x2c#7 => zeroField rs2 (.fsqrtS rd rs1 f3)
  | 0x50#7 =>
    match f3 with
    | 0#3 => .ok (.fleS rd rs1 rs2)
    | 1#3 => .ok (.fltS rd rs1 rs2)
    | 2#3 => .ok (.feqS rd rs1 rs2)
    | _ => .error .undefinedFunction
  | 0x60#7 =>
    match rs2 with
    | 0x00#5 => .ok (.fcvtWS rd rs1 f3)
    | 0x01#5 => .ok (.fcvtWuS rd rs1 f3)
    | _ => .error .undefinedFunction
  | 0x68#7 =>
    match rs2 with
    | 0x00#5 => .ok (.fcvtSW rd rs1 f3)
    | 0x01#5 => .ok (.fcvtSWu rd rs1 f3)
    | _ => .error .undefinedFunction
  | 0x70#7 =>
    match f3 with
    | 0#3 => zeroField rs2 (.fmvXW rd rs1)
    | 1#3 => zeroField rs2 (.fclassS rd rs1)
    | _ => .error .undefinedFunction
  | 0x78#7 =>
    match f3 with
    | 0#3 => zeroField rs2 (.fmvWX rd rs1)
    | _ => .error .undefinedFunction
  | _ => .error .undefinedFunction

/-- custom-2 (R167): funct3 and `f2` (bits 31:30) select; `Is3` is bits 29:25. -/
def decodeCustom2 (f7 : BitVec 7) (rs2 rs1 : Reg) (f3 : BitVec 3) (rd : Reg) : Decoded :=
  match f3 with
  | 0#3 =>
    match f7.extractLsb' 5 2 with
    | 0#2 => .ok (.cvExtract rd rs1 (f7.extractLsb' 0 5) rs2)
    | 1#2 => .ok (.cvExtractu rd rs1 (f7.extractLsb' 0 5) rs2)
    | 2#2 => .ok (.cvInsert rd rs1 (f7.extractLsb' 0 5) rs2)
    | _ => .error .undefinedFunction
  | 1#3 =>
    match f7.extractLsb' 5 2 with
    | 0#2 => .ok (.cvBclr rd rs1 (f7.extractLsb' 0 5) rs2)
    | 1#2 => .ok (.cvBset rd rs1 (f7.extractLsb' 0 5) rs2)
    | 3#2 => zeroField (f7.extractLsb' 2 3) (.cvBitrev rd rs1 (f7.extractLsb' 0 2) rs2)
    | _ => .error .undefinedFunction
  | 2#3 =>
    match f7.extractLsb' 5 2 with
    | 0#2 => .ok (.cvAddN rd rs1 rs2 (f7.extractLsb' 0 5))
    | 1#2 => .ok (.cvAdduN rd rs1 rs2 (f7.extractLsb' 0 5))
    | 2#2 => .ok (.cvAddRN rd rs1 rs2 (f7.extractLsb' 0 5))
    | 3#2 => .ok (.cvAdduRN rd rs1 rs2 (f7.extractLsb' 0 5))
  | 3#3 =>
    match f7.extractLsb' 5 2 with
    | 0#2 => .ok (.cvSubN rd rs1 rs2 (f7.extractLsb' 0 5))
    | 1#2 => .ok (.cvSubuN rd rs1 rs2 (f7.extractLsb' 0 5))
    | 2#2 => .ok (.cvSubRN rd rs1 rs2 (f7.extractLsb' 0 5))
    | 3#2 => .ok (.cvSubuRN rd rs1 rs2 (f7.extractLsb' 0 5))
  | 4#3 =>
    match f7.extractLsb' 5 2 with
    | 0#2 => .ok (.cvMulsN rd rs1 rs2 (f7.extractLsb' 0 5))
    | 1#2 => .ok (.cvMulhhsN rd rs1 rs2 (f7.extractLsb' 0 5))
    | 2#2 => .ok (.cvMulsRN rd rs1 rs2 (f7.extractLsb' 0 5))
    | 3#2 => .ok (.cvMulhhsRN rd rs1 rs2 (f7.extractLsb' 0 5))
  | 5#3 =>
    match f7.extractLsb' 5 2 with
    | 0#2 => .ok (.cvMuluN rd rs1 rs2 (f7.extractLsb' 0 5))
    | 1#2 => .ok (.cvMulhhuN rd rs1 rs2 (f7.extractLsb' 0 5))
    | 2#2 => .ok (.cvMuluRN rd rs1 rs2 (f7.extractLsb' 0 5))
    | 3#2 => .ok (.cvMulhhuRN rd rs1 rs2 (f7.extractLsb' 0 5))
  | 6#3 =>
    match f7.extractLsb' 5 2 with
    | 0#2 => .ok (.cvMacsN rd rs1 rs2 (f7.extractLsb' 0 5))
    | 1#2 => .ok (.cvMachhsN rd rs1 rs2 (f7.extractLsb' 0 5))
    | 2#2 => .ok (.cvMacsRN rd rs1 rs2 (f7.extractLsb' 0 5))
    | 3#2 => .ok (.cvMachhsRN rd rs1 rs2 (f7.extractLsb' 0 5))
  | 7#3 =>
    match f7.extractLsb' 5 2 with
    | 0#2 => .ok (.cvMacuN rd rs1 rs2 (f7.extractLsb' 0 5))
    | 1#2 => .ok (.cvMachhuN rd rs1 rs2 (f7.extractLsb' 0 5))
    | 2#2 => .ok (.cvMacuRN rd rs1 rs2 (f7.extractLsb' 0 5))
    | 3#2 => .ok (.cvMachhuRN rd rs1 rs2 (f7.extractLsb' 0 5))

/-- The six variants of a regular SIMD family (R168): `.h`, `.b`, `.sc.h`, `.sc.b` with bit 25 zero, `.sci.h`, `.sci.b`. -/
def sixForms (f3 : BitVec 3) (b25 : BitVec 1) (rs2 : Reg) (h b scH scB : Reg → Instr) (sciH sciB : BitVec 6 → Instr) :
    Decoded :=
  match f3 with
  | 0#3 => zeroField b25 (h rs2)
  | 1#3 => zeroField b25 (b rs2)
  | 4#3 => zeroField b25 (scH rs2)
  | 5#3 => zeroField b25 (scB rs2)
  | 6#3 => .ok (sciH (imm6Of b25 rs2))
  | 7#3 => .ok (sciB (imm6Of b25 rs2))
  | _ => .error .undefinedFunction

/-- custom-3, SIMD (R168): `f6` is funct5 and `F` (bits 31:26). -/
def decodeSimd (f6 : BitVec 6) (b25 : BitVec 1) (rs2 rs1 : Reg) (f3 : BitVec 3) (rd : Reg) : Decoded :=
  match f6 with
  | 0x00#6 =>
    sixForms f3 b25 rs2 (.cvAddH rd rs1) (.cvAddB rd rs1) (.cvAddScH rd rs1)
      (.cvAddScB rd rs1) (.cvAddSciH rd rs1) (.cvAddSciB rd rs1)
  | 0x02#6 =>
    sixForms f3 b25 rs2 (.cvSubH rd rs1) (.cvSubB rd rs1) (.cvSubScH rd rs1)
      (.cvSubScB rd rs1) (.cvSubSciH rd rs1) (.cvSubSciB rd rs1)
  | 0x04#6 =>
    sixForms f3 b25 rs2 (.cvAvgH rd rs1) (.cvAvgB rd rs1) (.cvAvgScH rd rs1)
      (.cvAvgScB rd rs1) (.cvAvgSciH rd rs1) (.cvAvgSciB rd rs1)
  | 0x06#6 =>
    sixForms f3 b25 rs2 (.cvAvguH rd rs1) (.cvAvguB rd rs1) (.cvAvguScH rd rs1)
      (.cvAvguScB rd rs1) (.cvAvguSciH rd rs1) (.cvAvguSciB rd rs1)
  | 0x08#6 =>
    sixForms f3 b25 rs2 (.cvMinH rd rs1) (.cvMinB rd rs1) (.cvMinScH rd rs1)
      (.cvMinScB rd rs1) (.cvMinSciH rd rs1) (.cvMinSciB rd rs1)
  | 0x0a#6 =>
    sixForms f3 b25 rs2 (.cvMinuH rd rs1) (.cvMinuB rd rs1) (.cvMinuScH rd rs1)
      (.cvMinuScB rd rs1) (.cvMinuSciH rd rs1) (.cvMinuSciB rd rs1)
  | 0x0c#6 =>
    sixForms f3 b25 rs2 (.cvMaxH rd rs1) (.cvMaxB rd rs1) (.cvMaxScH rd rs1)
      (.cvMaxScB rd rs1) (.cvMaxSciH rd rs1) (.cvMaxSciB rd rs1)
  | 0x0e#6 =>
    sixForms f3 b25 rs2 (.cvMaxuH rd rs1) (.cvMaxuB rd rs1) (.cvMaxuScH rd rs1)
      (.cvMaxuScB rd rs1) (.cvMaxuSciH rd rs1) (.cvMaxuSciB rd rs1)
  | 0x10#6 =>
    sixForms f3 b25 rs2 (.cvSrlH rd rs1) (.cvSrlB rd rs1) (.cvSrlScH rd rs1)
      (.cvSrlScB rd rs1) (.cvSrlSciH rd rs1) (.cvSrlSciB rd rs1)
  | 0x12#6 =>
    sixForms f3 b25 rs2 (.cvSraH rd rs1) (.cvSraB rd rs1) (.cvSraScH rd rs1)
      (.cvSraScB rd rs1) (.cvSraSciH rd rs1) (.cvSraSciB rd rs1)
  | 0x14#6 =>
    sixForms f3 b25 rs2 (.cvSllH rd rs1) (.cvSllB rd rs1) (.cvSllScH rd rs1)
      (.cvSllScB rd rs1) (.cvSllSciH rd rs1) (.cvSllSciB rd rs1)
  | 0x16#6 =>
    sixForms f3 b25 rs2 (.cvOrH rd rs1) (.cvOrB rd rs1) (.cvOrScH rd rs1)
      (.cvOrScB rd rs1) (.cvOrSciH rd rs1) (.cvOrSciB rd rs1)
  | 0x18#6 =>
    sixForms f3 b25 rs2 (.cvXorH rd rs1) (.cvXorB rd rs1) (.cvXorScH rd rs1)
      (.cvXorScB rd rs1) (.cvXorSciH rd rs1) (.cvXorSciB rd rs1)
  | 0x1a#6 =>
    sixForms f3 b25 rs2 (.cvAndH rd rs1) (.cvAndB rd rs1) (.cvAndScH rd rs1)
      (.cvAndScB rd rs1) (.cvAndSciH rd rs1) (.cvAndSciB rd rs1)
  | 0x1c#6 =>
    match f3 with
    | 0#3 => zeroField (b25 ++ rs2) (.cvAbsH rd rs1)
    | 1#3 => zeroField (b25 ++ rs2) (.cvAbsB rd rs1)
    | _ => .error .undefinedFunction
  | 0x20#6 =>
    sixForms f3 b25 rs2 (.cvDotupH rd rs1) (.cvDotupB rd rs1) (.cvDotupScH rd rs1)
      (.cvDotupScB rd rs1) (.cvDotupSciH rd rs1) (.cvDotupSciB rd rs1)
  | 0x22#6 =>
    sixForms f3 b25 rs2 (.cvDotuspH rd rs1) (.cvDotuspB rd rs1) (.cvDotuspScH rd rs1)
      (.cvDotuspScB rd rs1) (.cvDotuspSciH rd rs1) (.cvDotuspSciB rd rs1)
  | 0x24#6 =>
    sixForms f3 b25 rs2 (.cvDotspH rd rs1) (.cvDotspB rd rs1) (.cvDotspScH rd rs1)
      (.cvDotspScB rd rs1) (.cvDotspSciH rd rs1) (.cvDotspSciB rd rs1)
  | 0x26#6 =>
    sixForms f3 b25 rs2 (.cvSdotupH rd rs1) (.cvSdotupB rd rs1) (.cvSdotupScH rd rs1)
      (.cvSdotupScB rd rs1) (.cvSdotupSciH rd rs1) (.cvSdotupSciB rd rs1)
  | 0x28#6 =>
    sixForms f3 b25 rs2 (.cvSdotuspH rd rs1) (.cvSdotuspB rd rs1) (.cvSdotuspScH rd rs1)
      (.cvSdotuspScB rd rs1) (.cvSdotuspSciH rd rs1) (.cvSdotuspSciB rd rs1)
  | 0x2a#6 =>
    sixForms f3 b25 rs2 (.cvSdotspH rd rs1) (.cvSdotspB rd rs1) (.cvSdotspScH rd rs1)
      (.cvSdotspScB rd rs1) (.cvSdotspSciH rd rs1) (.cvSdotspSciB rd rs1)
  | 0x2e#6 =>
    match f3 with
    | 0#3 => .ok (.cvExtractH rd rs1 (imm6Of b25 rs2))
    | 1#3 => .ok (.cvExtractB rd rs1 (imm6Of b25 rs2))
    | 2#3 => .ok (.cvExtractuH rd rs1 (imm6Of b25 rs2))
    | 3#3 => .ok (.cvExtractuB rd rs1 (imm6Of b25 rs2))
    | 4#3 => .ok (.cvInsertH rd rs1 (imm6Of b25 rs2))
    | 5#3 => .ok (.cvInsertB rd rs1 (imm6Of b25 rs2))
    | _ => .error .undefinedFunction
  | 0x30#6 =>
    match f3 with
    | 0#3 => zeroField b25 (.cvShuffleH rd rs1 rs2)
    | 1#3 => zeroField b25 (.cvShuffleB rd rs1 rs2)
    | 6#3 => .ok (.cvShuffleSciH rd rs1 (imm6Of b25 rs2))
    | 7#3 => .ok (.cvShuffleI0SciB rd rs1 (imm6Of b25 rs2))
    | _ => .error .undefinedFunction
  | 0x32#6 =>
    match f3 with
    | 7#3 => .ok (.cvShuffleI1SciB rd rs1 (imm6Of b25 rs2))
    | _ => .error .undefinedFunction
  | 0x34#6 =>
    match f3 with
    | 7#3 => .ok (.cvShuffleI2SciB rd rs1 (imm6Of b25 rs2))
    | _ => .error .undefinedFunction
  | 0x36#6 =>
    match f3 with
    | 7#3 => .ok (.cvShuffleI3SciB rd rs1 (imm6Of b25 rs2))
    | _ => .error .undefinedFunction
  | 0x38#6 =>
    match f3 with
    | 0#3 => zeroField b25 (.cvShuffle2H rd rs1 rs2)
    | 1#3 => zeroField b25 (.cvShuffle2B rd rs1 rs2)
    | _ => .error .undefinedFunction
  | 0x3c#6 =>
    match f3 with
    | 0#3 => if b25 = 0 then .ok (.cvPack rd rs1 rs2) else .ok (.cvPackH rd rs1 rs2)
    | _ => .error .undefinedFunction
  | 0x3e#6 =>
    match f3 with
    | 1#3 => if b25 = 0 then .ok (.cvPackloB rd rs1 rs2) else .ok (.cvPackhiB rd rs1 rs2)
    | _ => .error .undefinedFunction
  | 0x01#6 =>
    sixForms f3 b25 rs2 (.cvCmpeqH rd rs1) (.cvCmpeqB rd rs1) (.cvCmpeqScH rd rs1)
      (.cvCmpeqScB rd rs1) (.cvCmpeqSciH rd rs1) (.cvCmpeqSciB rd rs1)
  | 0x03#6 =>
    sixForms f3 b25 rs2 (.cvCmpneH rd rs1) (.cvCmpneB rd rs1) (.cvCmpneScH rd rs1)
      (.cvCmpneScB rd rs1) (.cvCmpneSciH rd rs1) (.cvCmpneSciB rd rs1)
  | 0x05#6 =>
    sixForms f3 b25 rs2 (.cvCmpgtH rd rs1) (.cvCmpgtB rd rs1) (.cvCmpgtScH rd rs1)
      (.cvCmpgtScB rd rs1) (.cvCmpgtSciH rd rs1) (.cvCmpgtSciB rd rs1)
  | 0x07#6 =>
    sixForms f3 b25 rs2 (.cvCmpgeH rd rs1) (.cvCmpgeB rd rs1) (.cvCmpgeScH rd rs1)
      (.cvCmpgeScB rd rs1) (.cvCmpgeSciH rd rs1) (.cvCmpgeSciB rd rs1)
  | 0x09#6 =>
    sixForms f3 b25 rs2 (.cvCmpltH rd rs1) (.cvCmpltB rd rs1) (.cvCmpltScH rd rs1)
      (.cvCmpltScB rd rs1) (.cvCmpltSciH rd rs1) (.cvCmpltSciB rd rs1)
  | 0x0b#6 =>
    sixForms f3 b25 rs2 (.cvCmpleH rd rs1) (.cvCmpleB rd rs1) (.cvCmpleScH rd rs1)
      (.cvCmpleScB rd rs1) (.cvCmpleSciH rd rs1) (.cvCmpleSciB rd rs1)
  | 0x0d#6 =>
    sixForms f3 b25 rs2 (.cvCmpgtuH rd rs1) (.cvCmpgtuB rd rs1) (.cvCmpgtuScH rd rs1)
      (.cvCmpgtuScB rd rs1) (.cvCmpgtuSciH rd rs1) (.cvCmpgtuSciB rd rs1)
  | 0x0f#6 =>
    sixForms f3 b25 rs2 (.cvCmpgeuH rd rs1) (.cvCmpgeuB rd rs1) (.cvCmpgeuScH rd rs1)
      (.cvCmpgeuScB rd rs1) (.cvCmpgeuSciH rd rs1) (.cvCmpgeuSciB rd rs1)
  | 0x11#6 =>
    sixForms f3 b25 rs2 (.cvCmpltuH rd rs1) (.cvCmpltuB rd rs1) (.cvCmpltuScH rd rs1)
      (.cvCmpltuScB rd rs1) (.cvCmpltuSciH rd rs1) (.cvCmpltuSciB rd rs1)
  | 0x13#6 =>
    sixForms f3 b25 rs2 (.cvCmpleuH rd rs1) (.cvCmpleuB rd rs1) (.cvCmpleuScH rd rs1)
      (.cvCmpleuScB rd rs1) (.cvCmpleuSciH rd rs1) (.cvCmpleuSciB rd rs1)
  | 0x15#6 =>
    match f3 with
    | 0#3 => if b25 = 0 then .ok (.cvCplxmulR rd rs1 rs2) else .ok (.cvCplxmulI rd rs1 rs2)
    | 2#3 => if b25 = 0 then .ok (.cvCplxmulRDiv2 rd rs1 rs2) else .ok (.cvCplxmulIDiv2 rd rs1 rs2)
    | 4#3 => if b25 = 0 then .ok (.cvCplxmulRDiv4 rd rs1 rs2) else .ok (.cvCplxmulIDiv4 rd rs1 rs2)
    | 6#3 => if b25 = 0 then .ok (.cvCplxmulRDiv8 rd rs1 rs2) else .ok (.cvCplxmulIDiv8 rd rs1 rs2)
    | _ => .error .undefinedFunction
  | 0x17#6 =>
    match f3 with
    | 0#3 => zeroField (b25 ++ rs2) (.cvCplxconj rd rs1)
    | _ => .error .undefinedFunction
  | 0x19#6 =>
    match f3 with
    | 0#3 => zeroField b25 (.cvSubrotmj rd rs1 rs2)
    | 2#3 => zeroField b25 (.cvSubrotmjDiv2 rd rs1 rs2)
    | 4#3 => zeroField b25 (.cvSubrotmjDiv4 rd rs1 rs2)
    | 6#3 => zeroField b25 (.cvSubrotmjDiv8 rd rs1 rs2)
    | _ => .error .undefinedFunction
  | 0x1b#6 =>
    match f3 with
    | 2#3 => zeroField b25 (.cvAddDiv2 rd rs1 rs2)
    | 4#3 => zeroField b25 (.cvAddDiv4 rd rs1 rs2)
    | 6#3 => zeroField b25 (.cvAddDiv8 rd rs1 rs2)
    | _ => .error .undefinedFunction
  | 0x1d#6 =>
    match f3 with
    | 2#3 => zeroField b25 (.cvSubDiv2 rd rs1 rs2)
    | 4#3 => zeroField b25 (.cvSubDiv4 rd rs1 rs2)
    | 6#3 => zeroField b25 (.cvSubDiv8 rd rs1 rs2)
    | _ => .error .undefinedFunction
  | _ => .error .undefinedFunction

/-- SYSTEM: the five words without operands, and the CSR instructions. -/
def decodeSystem (f7 : BitVec 7) (rs2 rs1 : Reg) (f3 : BitVec 3) (rd : Reg) : Decoded :=
  match f3 with
  | 0#3 =>
    match f7 ++ rs2 with
    | 0x000#12 => zeroField (rs1 ++ rd) .ecall
    | 0x001#12 => zeroField (rs1 ++ rd) .ebreak
    | 0x302#12 => zeroField (rs1 ++ rd) .mret
    | 0x7b2#12 => zeroField (rs1 ++ rd) .dret
    | 0x105#12 => zeroField (rs1 ++ rd) .wfi
    | _ => .error .undefinedFunction
  | 1#3 => .ok (.csrrw rd (immI f7 rs2) rs1)
  | 2#3 => .ok (.csrrs rd (immI f7 rs2) rs1)
  | 3#3 => .ok (.csrrc rd (immI f7 rs2) rs1)
  | 5#3 => .ok (.csrrwi rd (immI f7 rs2) rs1)
  | 6#3 => .ok (.csrrsi rd (immI f7 rs2) rs1)
  | 7#3 => .ok (.csrrci rd (immI f7 rs2) rs1)
  | _ => .error .undefinedFunction

/-- BRANCH. -/
def decodeBranch (f7 : BitVec 7) (rs2 rs1 : Reg) (f3 : BitVec 3) (rd : Reg) : Decoded :=
  match f3 with
  | 0#3 => .ok (.beq rs1 rs2 (immB f7 rd))
  | 1#3 => .ok (.bne rs1 rs2 (immB f7 rd))
  | 4#3 => .ok (.blt rs1 rs2 (immB f7 rd))
  | 5#3 => .ok (.bge rs1 rs2 (immB f7 rd))
  | 6#3 => .ok (.bltu rs1 rs2 (immB f7 rd))
  | 7#3 => .ok (.bgeu rs1 rs2 (immB f7 rd))
  | _ => .error .undefinedFunction

/-- JALR. -/
def decodeJalr (f7 : BitVec 7) (rs2 rs1 : Reg) (f3 : BitVec 3) (rd : Reg) : Decoded :=
  match f3 with
  | 0#3 => .ok (.jalr rd rs1 (immI f7 rs2))
  | _ => .error .undefinedFunction

/-- A 32-bit instruction, from its fields (R164). -/
def decodeFields (f7 : BitVec 7) (rs2 rs1 : Reg) (f3 : BitVec 3) (rd : Reg) (op : BitVec 7) : Decoded :=
  match op with
  | 0x03#7 => decodeLoad f7 rs2 rs1 f3 rd
  | 0x07#7 => decodeLoadFp f7 rs2 rs1 f3 rd
  | 0x0b#7 => decodeCustom0 f7 rs2 rs1 f3 rd
  | 0x0f#7 => decodeMiscMem f7 rs2 rs1 f3 rd
  | 0x13#7 => decodeOpImm f7 rs2 rs1 f3 rd
  | 0x17#7 => .ok (.auipc rd (immU f7 rs2 rs1 f3))
  | 0x23#7 => decodeStore f7 rs2 rs1 f3 rd
  | 0x27#7 => decodeStoreFp f7 rs2 rs1 f3 rd
  | 0x2b#7 => decodeCustom1 f7 rs2 rs1 f3 rd
  | 0x33#7 => decodeOp f7 rs2 rs1 f3 rd
  | 0x37#7 => .ok (.lui rd (immU f7 rs2 rs1 f3))
  | 0x43#7 => decodeR4 (.fmaddS rd rs1 rs2 · f3) f7
  | 0x47#7 => decodeR4 (.fmsubS rd rs1 rs2 · f3) f7
  | 0x4b#7 => decodeR4 (.fnmsubS rd rs1 rs2 · f3) f7
  | 0x4f#7 => decodeR4 (.fnmaddS rd rs1 rs2 · f3) f7
  | 0x53#7 => decodeOpFp f7 rs2 rs1 f3 rd
  | 0x5b#7 => decodeCustom2 f7 rs2 rs1 f3 rd
  | 0x63#7 => decodeBranch f7 rs2 rs1 f3 rd
  | 0x67#7 => decodeJalr f7 rs2 rs1 f3 rd
  | 0x6f#7 => .ok (.jal rd (immJ (immU f7 rs2 rs1 f3)))
  | 0x73#7 => decodeSystem f7 rs2 rs1 f3 rd
  | 0x7b#7 => decodeSimd (f7.extractLsb' 1 6) (f7.extractLsb' 0 1) rs2 rs1 f3 rd
  | _ => .error .undefinedOpcode

/-- A 32-bit instruction word (R162). -/
def decode32 (w : Word) : Decoded :=
  decodeFields (w.extractLsb' 25 7) (w.extractLsb' 20 5) (w.extractLsb' 15 5) (w.extractLsb' 12 3) (w.extractLsb' 7 5)
    (w.extractLsb' 0 7)

/-! Compressed formats (R163). The fields of a parcel are funct3 (15:13), bit 12, `a` (11:7) and `b` (6:2). -/

/-- A compressed instruction that is reserved unless `p` (R293). -/
def unlessReserved (p : Bool) (i : Instr) : Decoded :=
  if p then .ok i else .error .reservedCompressed

/-- CIW, bits 9:2 of the offset of c.addi4spn (R262): 12:11 = [5:4], 10:7 = [9:6], 6 = [2], 5 = [3]. -/
def immCiw (b12 : BitVec 1) (a b : Reg) : BitVec 8 :=
  a.extractLsb' 0 4 ++ b12 ++ a.extractLsb' 4 1 ++ b.extractLsb' 3 1 ++ b.extractLsb' 4 1

/-- CL and CS, bits 6:2 of the offset (R263): 12:10 = [5:3], 6 = [2], 5 = [6]. -/
def immCl (b12 : BitVec 1) (a b : Reg) : BitVec 5 :=
  b.extractLsb' 3 1 ++ b12 ++ a.extractLsb' 3 2 ++ b.extractLsb' 4 1

/-- CJ, bits 11:1 of the offset (R269): 12 = [11], 11 = [4], 10:9 = [9:8], 8 = [10], 7 = [6], 6 = [7], 5:3 = [3:1],
2 = [5]. -/
def immCj (b12 : BitVec 1) (a b : Reg) : BitVec 11 :=
  b12 ++ a.extractLsb' 1 1 ++ a.extractLsb' 2 2 ++ b.extractLsb' 4 1 ++ a.extractLsb' 0 1 ++ b.extractLsb' 0 1
    ++ a.extractLsb' 4 1 ++ b.extractLsb' 1 3

/-- CB, bits 8:1 of the branch offset (R281): 12 = [8], 11:10 = [4:3], 6:5 = [7:6], 4:3 = [2:1], 2 = [5]. -/
def immCb (b12 : BitVec 1) (a b : Reg) : BitVec 8 :=
  b12 ++ b.extractLsb' 3 2 ++ b.extractLsb' 0 1 ++ a.extractLsb' 3 2 ++ b.extractLsb' 1 2

/-- CI, the six bits 12 and 6:2. -/
def immCi (b12 : BitVec 1) (b : Reg) : BitVec 6 := b12 ++ b

/-- Bits 9:4 of the immediate of c.addi16sp (R271): 12 = [9], 6 = [4], 5 = [6], 4:3 = [8:7], 2 = [5]. -/
def immAddi16sp (b12 : BitVec 1) (b : Reg) : BitVec 6 :=
  b12 ++ b.extractLsb' 1 2 ++ b.extractLsb' 3 1 ++ b.extractLsb' 0 1 ++ b.extractLsb' 4 1

/-- Bits 7:2 of the offset of c.lwsp and c.flwsp (R284): 12 = [5], 6:4 = [4:2], 3:2 = [7:6]. -/
def immLwsp (b12 : BitVec 1) (b : Reg) : BitVec 6 :=
  b.extractLsb' 0 2 ++ b12 ++ b.extractLsb' 2 3

/-- CSS, bits 7:2 of the offset of c.swsp and c.fswsp (R291): 12:9 = [5:2], 8:7 = [7:6]. -/
def immSwsp (b12 : BitVec 1) (a : Reg) : BitVec 6 :=
  a.extractLsb' 0 2 ++ b12 ++ a.extractLsb' 2 3

/-- Quadrant 0 (R262 to R266, R293). -/
def decodeQ0 (f3 : BitVec 3) (b12 : BitVec 1) (a b : Reg) : Decoded :=
  let rd := b.extractLsb' 0 3
  let rs1 := a.extractLsb' 0 3
  match f3 with
  | 0#3 => unlessReserved (immCiw b12 a b != 0) (.cAddi4spn rd (immCiw b12 a b))
  | 2#3 => .ok (.cLw rd rs1 (immCl b12 a b))
  | 3#3 => .ok (.cFlw rd rs1 (immCl b12 a b))
  | 6#3 => .ok (.cSw rd rs1 (immCl b12 a b))
  | 7#3 => .ok (.cFsw rd rs1 (immCl b12 a b))
  | _ => .error .reservedCompressed

/-- Quadrant 1, funct3 = 100 (R273 to R279, R293). -/
def decodeQ1Alu (b12 : BitVec 1) (a b : Reg) : Decoded :=
  let rd := a.extractLsb' 0 3
  let rs2 := b.extractLsb' 0 3
  match a.extractLsb' 3 2 with
  | 0#2 => unlessReserved (b12 == 0) (.cSrli rd b)
  | 1#2 => unlessReserved (b12 == 0) (.cSrai rd b)
  | 2#2 => .ok (.cAndi rd (immCi b12 b))
  | 3#2 =>
    match b.extractLsb' 3 2 with
    | 0#2 => unlessReserved (b12 == 0) (.cSub rd rs2)
    | 1#2 => unlessReserved (b12 == 0) (.cXor rd rs2)
    | 2#2 => unlessReserved (b12 == 0) (.cOr rd rs2)
    | 3#2 => unlessReserved (b12 == 0) (.cAnd rd rs2)

/-- Quadrant 1 (R267 to R282, R293); rows that share a pattern are told apart by the register field (R176). -/
def decodeQ1 (f3 : BitVec 3) (b12 : BitVec 1) (a b : Reg) : Decoded :=
  match f3 with
  | 0#3 => if a = 0 then .ok (.cNop (immCi b12 b)) else .ok (.cAddi a (immCi b12 b))
  | 1#3 => .ok (.cJal (immCj b12 a b))
  | 2#3 => .ok (.cLi a (immCi b12 b))
  | 3#3 =>
    if a = 2 then unlessReserved (immAddi16sp b12 b != 0) (.cAddi16sp (immAddi16sp b12 b))
    else unlessReserved (immCi b12 b != 0) (.cLui a (immCi b12 b))
  | 4#3 => decodeQ1Alu b12 a b
  | 5#3 => .ok (.cJ (immCj b12 a b))
  | 6#3 => .ok (.cBeqz (a.extractLsb' 0 3) (immCb b12 a b))
  | 7#3 => .ok (.cBnez (a.extractLsb' 0 3) (immCb b12 a b))

/-- Quadrant 2 (R283 to R293). -/
def decodeQ2 (f3 : BitVec 3) (b12 : BitVec 1) (a b : Reg) : Decoded :=
  match f3 with
  | 0#3 => unlessReserved (b12 == 0) (.cSlli a b)
  | 2#3 => unlessReserved (a != 0) (.cLwsp a (immLwsp b12 b))
  | 3#3 => .ok (.cFlwsp a (immLwsp b12 b))
  | 4#3 =>
    match b12 with
    | 0#1 => if b = 0 then unlessReserved (a != 0) (.cJr a) else .ok (.cMv a b)
    | 1#1 => if b = 0 then (if a = 0 then .ok .cEbreak else .ok (.cJalr a)) else .ok (.cAdd a b)
  | 6#3 => .ok (.cSwsp b (immSwsp b12 a))
  | 7#3 => .ok (.cFswsp b (immSwsp b12 a))
  | _ => .error .reservedCompressed

/-- A compressed instruction, from its fields (R163). Quadrant 3 is the 32-bit instructions (R160). -/
def decodeFields16 (f3 : BitVec 3) (b12 : BitVec 1) (a b : Reg) (q : BitVec 2) : Decoded :=
  match q with
  | 0#2 => decodeQ0 f3 b12 a b
  | 1#2 => decodeQ1 f3 b12 a b
  | 2#2 => decodeQ2 f3 b12 a b
  | 3#2 => .error .truncated

/-- A 16-bit parcel (R163). -/
def decode16 (h : BitVec 16) : Decoded :=
  decodeFields16 (h.extractLsb' 13 3) (h.extractLsb' 12 1) (h.extractLsb' 7 5) (h.extractLsb' 2 5) (h.extractLsb' 0 2)

/-- The instruction whose lowest-addressed 32 bits are `w`: bits 1:0 decide its length (R160). -/
def decode (w : Word) : Decoded :=
  if w.extractLsb' 0 2 = 3#2 then decode32 w else decode16 (w.extractLsb' 0 16)

/-- The first instruction of a list of bytes, and the bytes after it; the first byte is the lowest-addressed (R160). -/
def decodeBytes : List Byte → Except DecodeError (Instr × List Byte)
  | b0 :: b1 :: rest =>
    if b0.extractLsb' 0 2 = 3#2 then
      match rest with
      | b2 :: b3 :: rest' => (decode32 (b3 ++ b2 ++ b1 ++ b0)).map (·, rest')
      | _ => .error .truncated
    else (decode16 (b1 ++ b0)).map (·, rest)
  | _ => .error .truncated

/-! ### Encoding, from the same tables -/

/-- The words of an instruction: one 16-bit parcel or one 32-bit word (R160). -/
inductive Code where
  | half (h : BitVec 16)
  | full (w : Word)
  deriving DecidableEq, Repr

/-- A 32-bit word from its fields (R162). -/
def word32 (f7 : BitVec 7) (rs2 rs1 : Reg) (f3 : BitVec 3) (rd : Reg) (op : BitVec 7) : Word :=
  f7 ++ rs2 ++ rs1 ++ f3 ++ rd ++ op

/-- A 16-bit parcel from its fields (R163). -/
def word16 (f3 : BitVec 3) (b12 : BitVec 1) (a b : Reg) (q : BitVec 2) : BitVec 16 :=
  f3 ++ b12 ++ a ++ b ++ q

/-- R format. -/
def encR (f7 : BitVec 7) (f3 : BitVec 3) (op : BitVec 7) (rd rs1 rs2 : Reg) : Code :=
  .full (word32 f7 rs2 rs1 f3 rd op)

/-- I format. -/
def encI (f3 : BitVec 3) (op : BitVec 7) (rd rs1 : Reg) (imm : BitVec 12) : Code :=
  .full (word32 (imm.extractLsb' 5 7) (imm.extractLsb' 0 5) rs1 f3 rd op)

/-- S format. -/
def encS (f3 : BitVec 3) (op : BitVec 7) (rs2 rs1 : Reg) (imm : BitVec 12) : Code :=
  .full (word32 (imm.extractLsb' 5 7) rs2 rs1 f3 (imm.extractLsb' 0 5) op)

/-- B format; `imm` is bits 12:1 of the offset. -/
def encB (f3 : BitVec 3) (op : BitVec 7) (rs1 rs2 : Reg) (imm : BitVec 12) : Code :=
  .full (word32 (imm.extractLsb' 11 1 ++ imm.extractLsb' 4 6) rs2 rs1 f3 (imm.extractLsb' 0 4 ++ imm.extractLsb' 10 1) op)

/-- U format; `imm` is bits 31:12. -/
def encU (op : BitVec 7) (rd : Reg) (imm : BitVec 20) : Code :=
  .full (word32 (imm.extractLsb' 13 7) (imm.extractLsb' 8 5) (imm.extractLsb' 3 5) (imm.extractLsb' 0 3) rd op)

/-- J format; `imm` is bits 20:1 of the offset. -/
def encJ (op : BitVec 7) (rd : Reg) (imm : BitVec 20) : Code :=
  encU op rd (imm.extractLsb' 19 1 ++ imm.extractLsb' 0 10 ++ imm.extractLsb' 10 1 ++ imm.extractLsb' 11 8)

/-- R4 format, single precision. -/
def encR4 (op : BitVec 7) (rd rs1 rs2 rs3 : Reg) (rm : BitVec 3) : Code :=
  .full (word32 (rs3 ++ 0#2) rs2 rs1 rm rd op)

/-- Hardware loop (R165): `funct4` and `L` in the rd field. -/
def encLoop (f4 : BitVec 4) (l : BitVec 1) (rs1 : Reg) (uimmL : BitVec 12) : Code :=
  encI 4#3 0x2b#7 (f4 ++ l) rs1 uimmL

/-- custom-2 with `Is3` (R167). -/
def encIs3 (f2 : BitVec 2) (f3 : BitVec 3) (rd rs1 rs2 is3 : Reg) : Code :=
  .full (word32 (f2 ++ is3) rs2 rs1 f3 rd 0x5b#7)

/-- custom-3, register form (R168). -/
def encSimd (f6 : BitVec 6) (b25 : BitVec 1) (f3 : BitVec 3) (rd rs1 rs2 : Reg) : Code :=
  .full (word32 (f6 ++ b25) rs2 rs1 f3 rd 0x7b#7)

/-- custom-3, `Imm6` form (R168). -/
def encImm6 (f6 : BitVec 6) (f3 : BitVec 3) (rd rs1 : Reg) (imm6 : BitVec 6) : Code :=
  encSimd f6 (imm6.extractLsb' 0 1) f3 rd rs1 (imm6.extractLsb' 1 5)

/-- CL and CS; `imm` is bits 6:2 of the offset. -/
def encCl (f3 : BitVec 3) (rd rs1 : Reg3) (imm : BitVec 5) : Code :=
  .half (word16 f3 (imm.extractLsb' 3 1) (imm.extractLsb' 1 2 ++ rs1) (imm.extractLsb' 0 1 ++ imm.extractLsb' 4 1 ++ rd) 0#2)

/-- CI. -/
def encCi (f3 : BitVec 3) (rd : Reg) (imm : BitVec 6) (q : BitVec 2) : Code :=
  .half (word16 f3 (imm.extractLsb' 5 1) rd (imm.extractLsb' 0 5) q)

/-- CJ; `imm` is bits 11:1 of the offset. -/
def encCj (f3 : BitVec 3) (imm : BitVec 11) : Code :=
  .half (word16 f3 (imm.extractLsb' 10 1)
    (imm.extractLsb' 3 1 ++ imm.extractLsb' 7 2 ++ imm.extractLsb' 9 1 ++ imm.extractLsb' 5 1)
    (imm.extractLsb' 6 1 ++ imm.extractLsb' 0 3 ++ imm.extractLsb' 4 1) 1#2)

/-- CB branches; `imm` is bits 8:1 of the offset. -/
def encCb (f3 : BitVec 3) (rs1 : Reg3) (imm : BitVec 8) : Code :=
  .half (word16 f3 (imm.extractLsb' 7 1) (imm.extractLsb' 2 2 ++ rs1)
    (imm.extractLsb' 5 2 ++ imm.extractLsb' 0 2 ++ imm.extractLsb' 4 1) 1#2)

/-- Quadrant 1, funct3 = 100: `f2` is bits 11:10. -/
def encCa (b12 : BitVec 1) (f2 : BitVec 2) (rd : Reg3) (b : Reg) : Code :=
  .half (word16 4#3 b12 (f2 ++ rd) b 1#2)

/-- c.lwsp and c.flwsp; `imm` is bits 7:2 of the offset. -/
def encLwsp (f3 : BitVec 3) (rd : Reg) (imm : BitVec 6) : Code :=
  .half (word16 f3 (imm.extractLsb' 3 1) rd (imm.extractLsb' 0 3 ++ imm.extractLsb' 4 2) 2#2)

/-- CSS; `imm` is bits 7:2 of the offset. -/
def encSwsp (f3 : BitVec 3) (rs2 : Reg) (imm : BitVec 6) : Code :=
  .half (word16 f3 (imm.extractLsb' 3 1) (imm.extractLsb' 0 3 ++ imm.extractLsb' 4 2) rs2 2#2)

/-- The encoding of an instruction: the `match` bits of its row of spec/opcode_table.json with its operands in their fields. -/
def encode : Instr → Code
  | .lui rd imm => encU 0x37#7 rd imm
  | .auipc rd imm => encU 0x17#7 rd imm
  | .jal rd imm => encJ 0x6f#7 rd imm
  | .jalr rd rs1 imm => encI 0#3 0x67#7 rd rs1 imm
  | .beq rs1 rs2 imm => encB 0#3 0x63#7 rs1 rs2 imm
  | .bne rs1 rs2 imm => encB 1#3 0x63#7 rs1 rs2 imm
  | .blt rs1 rs2 imm => encB 4#3 0x63#7 rs1 rs2 imm
  | .bge rs1 rs2 imm => encB 5#3 0x63#7 rs1 rs2 imm
  | .bltu rs1 rs2 imm => encB 6#3 0x63#7 rs1 rs2 imm
  | .bgeu rs1 rs2 imm => encB 7#3 0x63#7 rs1 rs2 imm
  | .lb rd rs1 imm => encI 0#3 0x03#7 rd rs1 imm
  | .lh rd rs1 imm => encI 1#3 0x03#7 rd rs1 imm
  | .lw rd rs1 imm => encI 2#3 0x03#7 rd rs1 imm
  | .lbu rd rs1 imm => encI 4#3 0x03#7 rd rs1 imm
  | .lhu rd rs1 imm => encI 5#3 0x03#7 rd rs1 imm
  | .sb rs2 rs1 imm => encS 0#3 0x23#7 rs2 rs1 imm
  | .sh rs2 rs1 imm => encS 1#3 0x23#7 rs2 rs1 imm
  | .sw rs2 rs1 imm => encS 2#3 0x23#7 rs2 rs1 imm
  | .addi rd rs1 imm => encI 0#3 0x13#7 rd rs1 imm
  | .slti rd rs1 imm => encI 2#3 0x13#7 rd rs1 imm
  | .sltiu rd rs1 imm => encI 3#3 0x13#7 rd rs1 imm
  | .xori rd rs1 imm => encI 4#3 0x13#7 rd rs1 imm
  | .ori rd rs1 imm => encI 6#3 0x13#7 rd rs1 imm
  | .andi rd rs1 imm => encI 7#3 0x13#7 rd rs1 imm
  | .slli rd rs1 shamt => encR 0x00#7 1#3 0x13#7 rd rs1 shamt
  | .srli rd rs1 shamt => encR 0x00#7 5#3 0x13#7 rd rs1 shamt
  | .srai rd rs1 shamt => encR 0x20#7 5#3 0x13#7 rd rs1 shamt
  | .add rd rs1 rs2 => encR 0x00#7 0#3 0x33#7 rd rs1 rs2
  | .sub rd rs1 rs2 => encR 0x20#7 0#3 0x33#7 rd rs1 rs2
  | .sll rd rs1 rs2 => encR 0x00#7 1#3 0x33#7 rd rs1 rs2
  | .slt rd rs1 rs2 => encR 0x00#7 2#3 0x33#7 rd rs1 rs2
  | .sltu rd rs1 rs2 => encR 0x00#7 3#3 0x33#7 rd rs1 rs2
  | .xor rd rs1 rs2 => encR 0x00#7 4#3 0x33#7 rd rs1 rs2
  | .srl rd rs1 rs2 => encR 0x00#7 5#3 0x33#7 rd rs1 rs2
  | .sra rd rs1 rs2 => encR 0x20#7 5#3 0x33#7 rd rs1 rs2
  | .or rd rs1 rs2 => encR 0x00#7 6#3 0x33#7 rd rs1 rs2
  | .and rd rs1 rs2 => encR 0x00#7 7#3 0x33#7 rd rs1 rs2
  | .ecall => encI 0#3 0x73#7 0#5 0#5 0x000#12
  | .ebreak => encI 0#3 0x73#7 0#5 0#5 0x001#12
  | .mul rd rs1 rs2 => encR 0x01#7 0#3 0x33#7 rd rs1 rs2
  | .mulh rd rs1 rs2 => encR 0x01#7 1#3 0x33#7 rd rs1 rs2
  | .mulhsu rd rs1 rs2 => encR 0x01#7 2#3 0x33#7 rd rs1 rs2
  | .mulhu rd rs1 rs2 => encR 0x01#7 3#3 0x33#7 rd rs1 rs2
  | .div rd rs1 rs2 => encR 0x01#7 4#3 0x33#7 rd rs1 rs2
  | .divu rd rs1 rs2 => encR 0x01#7 5#3 0x33#7 rd rs1 rs2
  | .rem rd rs1 rs2 => encR 0x01#7 6#3 0x33#7 rd rs1 rs2
  | .remu rd rs1 rs2 => encR 0x01#7 7#3 0x33#7 rd rs1 rs2
  | .csrrw rd csr rs1 => encI 1#3 0x73#7 rd rs1 csr
  | .csrrs rd csr rs1 => encI 2#3 0x73#7 rd rs1 csr
  | .csrrc rd csr rs1 => encI 3#3 0x73#7 rd rs1 csr
  | .csrrwi rd csr uimm => encI 5#3 0x73#7 rd uimm csr
  | .csrrsi rd csr uimm => encI 6#3 0x73#7 rd uimm csr
  | .csrrci rd csr uimm => encI 7#3 0x73#7 rd uimm csr
  | .fence imm rs1 rd => encI 0#3 0x0f#7 rd rs1 imm
  | .fenceI imm rs1 rd => encI 1#3 0x0f#7 rd rs1 imm
  | .mret => encI 0#3 0x73#7 0#5 0#5 0x302#12
  | .dret => encI 0#3 0x73#7 0#5 0#5 0x7b2#12
  | .wfi => encI 0#3 0x73#7 0#5 0#5 0x105#12
  | .flw rd rs1 imm => encI 2#3 0x07#7 rd rs1 imm
  | .fsw rs2 rs1 imm => encS 2#3 0x27#7 rs2 rs1 imm
  | .fmaddS rd rs1 rs2 rs3 rm => encR4 0x43#7 rd rs1 rs2 rs3 rm
  | .fmsubS rd rs1 rs2 rs3 rm => encR4 0x47#7 rd rs1 rs2 rs3 rm
  | .fnmsubS rd rs1 rs2 rs3 rm => encR4 0x4b#7 rd rs1 rs2 rs3 rm
  | .fnmaddS rd rs1 rs2 rs3 rm => encR4 0x4f#7 rd rs1 rs2 rs3 rm
  | .faddS rd rs1 rs2 rm => encR 0x00#7 rm 0x53#7 rd rs1 rs2
  | .fsubS rd rs1 rs2 rm => encR 0x04#7 rm 0x53#7 rd rs1 rs2
  | .fmulS rd rs1 rs2 rm => encR 0x08#7 rm 0x53#7 rd rs1 rs2
  | .fdivS rd rs1 rs2 rm => encR 0x0c#7 rm 0x53#7 rd rs1 rs2
  | .fsqrtS rd rs1 rm => encR 0x2c#7 rm 0x53#7 rd rs1 0x00#5
  | .fsgnjS rd rs1 rs2 => encR 0x10#7 0#3 0x53#7 rd rs1 rs2
  | .fsgnjnS rd rs1 rs2 => encR 0x10#7 1#3 0x53#7 rd rs1 rs2
  | .fsgnjxS rd rs1 rs2 => encR 0x10#7 2#3 0x53#7 rd rs1 rs2
  | .fminS rd rs1 rs2 => encR 0x14#7 0#3 0x53#7 rd rs1 rs2
  | .fmaxS rd rs1 rs2 => encR 0x14#7 1#3 0x53#7 rd rs1 rs2
  | .fcvtWS rd rs1 rm => encR 0x60#7 rm 0x53#7 rd rs1 0x00#5
  | .fcvtWuS rd rs1 rm => encR 0x60#7 rm 0x53#7 rd rs1 0x01#5
  | .fmvXW rd rs1 => encR 0x70#7 0#3 0x53#7 rd rs1 0#5
  | .feqS rd rs1 rs2 => encR 0x50#7 2#3 0x53#7 rd rs1 rs2
  | .fltS rd rs1 rs2 => encR 0x50#7 1#3 0x53#7 rd rs1 rs2
  | .fleS rd rs1 rs2 => encR 0x50#7 0#3 0x53#7 rd rs1 rs2
  | .fclassS rd rs1 => encR 0x70#7 1#3 0x53#7 rd rs1 0#5
  | .fcvtSW rd rs1 rm => encR 0x68#7 rm 0x53#7 rd rs1 0x00#5
  | .fcvtSWu rd rs1 rm => encR 0x68#7 rm 0x53#7 rd rs1 0x01#5
  | .fmvWX rd rs1 => encR 0x78#7 0#3 0x53#7 rd rs1 0#5
  | .cvLbPostImm rd rs1 imm => encI 0#3 0x0b#7 rd rs1 imm
  | .cvLbuPostImm rd rs1 imm => encI 4#3 0x0b#7 rd rs1 imm
  | .cvLhPostImm rd rs1 imm => encI 1#3 0x0b#7 rd rs1 imm
  | .cvLhuPostImm rd rs1 imm => encI 5#3 0x0b#7 rd rs1 imm
  | .cvLwPostImm rd rs1 imm => encI 2#3 0x0b#7 rd rs1 imm
  | .cvLbPostReg rd rs1 rs2 => encR 0x00#7 3#3 0x2b#7 rd rs1 rs2
  | .cvLbuPostReg rd rs1 rs2 => encR 0x08#7 3#3 0x2b#7 rd rs1 rs2
  | .cvLhPostReg rd rs1 rs2 => encR 0x01#7 3#3 0x2b#7 rd rs1 rs2
  | .cvLhuPostReg rd rs1 rs2 => encR 0x09#7 3#3 0x2b#7 rd rs1 rs2
  | .cvLwPostReg rd rs1 rs2 => encR 0x02#7 3#3 0x2b#7 rd rs1 rs2
  | .cvLbIdx rd rs1 rs2 => encR 0x04#7 3#3 0x2b#7 rd rs1 rs2
  | .cvLbuIdx rd rs1 rs2 => encR 0x0c#7 3#3 0x2b#7 rd rs1 rs2
  | .cvLhIdx rd rs1 rs2 => encR 0x05#7 3#3 0x2b#7 rd rs1 rs2
  | .cvLhuIdx rd rs1 rs2 => encR 0x0d#7 3#3 0x2b#7 rd rs1 rs2
  | .cvLwIdx rd rs1 rs2 => encR 0x06#7 3#3 0x2b#7 rd rs1 rs2
  | .cvSbPostImm rs2 rs1 imm => encS 0#3 0x2b#7 rs2 rs1 imm
  | .cvShPostImm rs2 rs1 imm => encS 1#3 0x2b#7 rs2 rs1 imm
  | .cvSwPostImm rs2 rs1 imm => encS 2#3 0x2b#7 rs2 rs1 imm
  | .cvSbPostReg rs2 rs1 rs3 => encR 0x10#7 3#3 0x2b#7 rs3 rs1 rs2
  | .cvShPostReg rs2 rs1 rs3 => encR 0x11#7 3#3 0x2b#7 rs3 rs1 rs2
  | .cvSwPostReg rs2 rs1 rs3 => encR 0x12#7 3#3 0x2b#7 rs3 rs1 rs2
  | .cvSbIdx rs2 rs1 rs3 => encR 0x14#7 3#3 0x2b#7 rs3 rs1 rs2
  | .cvShIdx rs2 rs1 rs3 => encR 0x15#7 3#3 0x2b#7 rs3 rs1 rs2
  | .cvSwIdx rs2 rs1 rs3 => encR 0x16#7 3#3 0x2b#7 rs3 rs1 rs2
  | .cvElw rd rs1 imm => encI 3#3 0x0b#7 rd rs1 imm
  | .cvStarti l uimmL => encLoop 0x0#4 l 0#5 uimmL
  | .cvStart l rs1 => encLoop 0x1#4 l rs1 0#12
  | .cvEndi l uimmL => encLoop 0x2#4 l 0#5 uimmL
  | .cvEnd l rs1 => encLoop 0x3#4 l rs1 0#12
  | .cvCounti l uimmL => encLoop 0x4#4 l 0#5 uimmL
  | .cvCount l rs1 => encLoop 0x5#4 l rs1 0#12
  | .cvSetupi l uimmL uimmS => encLoop 0x6#4 l uimmS uimmL
  | .cvSetup l rs1 uimmL => encLoop 0x7#4 l rs1 uimmL
  | .cvExtract rd rs1 is3 is2 => encIs3 0#2 0#3 rd rs1 is2 is3
  | .cvExtractu rd rs1 is3 is2 => encIs3 1#2 0#3 rd rs1 is2 is3
  | .cvInsert rd rs1 is3 is2 => encIs3 2#2 0#3 rd rs1 is2 is3
  | .cvBclr rd rs1 is3 is2 => encIs3 0#2 1#3 rd rs1 is2 is3
  | .cvBset rd rs1 is3 is2 => encIs3 1#2 1#3 rd rs1 is2 is3
  | .cvBitrev rd rs1 is3 is2 => encIs3 3#2 1#3 rd rs1 is2 (0#3 ++ is3)
  | .cvExtractr rd rs1 rs2 => encR 0x18#7 3#3 0x2b#7 rd rs1 rs2
  | .cvExtractur rd rs1 rs2 => encR 0x19#7 3#3 0x2b#7 rd rs1 rs2
  | .cvInsertr rd rs1 rs2 => encR 0x1a#7 3#3 0x2b#7 rd rs1 rs2
  | .cvBclrr rd rs1 rs2 => encR 0x1c#7 3#3 0x2b#7 rd rs1 rs2
  | .cvBsetr rd rs1 rs2 => encR 0x1d#7 3#3 0x2b#7 rd rs1 rs2
  | .cvRor rd rs1 rs2 => encR 0x20#7 3#3 0x2b#7 rd rs1 rs2
  | .cvFf1 rd rs1 => encR 0x21#7 3#3 0x2b#7 rd rs1 0#5
  | .cvFl1 rd rs1 => encR 0x22#7 3#3 0x2b#7 rd rs1 0#5
  | .cvClb rd rs1 => encR 0x23#7 3#3 0x2b#7 rd rs1 0#5
  | .cvCnt rd rs1 => encR 0x24#7 3#3 0x2b#7 rd rs1 0#5
  | .cvAbs rd rs1 => encR 0x28#7 3#3 0x2b#7 rd rs1 0#5
  | .cvSle rd rs1 rs2 => encR 0x29#7 3#3 0x2b#7 rd rs1 rs2
  | .cvSleu rd rs1 rs2 => encR 0x2a#7 3#3 0x2b#7 rd rs1 rs2
  | .cvMin rd rs1 rs2 => encR 0x2b#7 3#3 0x2b#7 rd rs1 rs2
  | .cvMinu rd rs1 rs2 => encR 0x2c#7 3#3 0x2b#7 rd rs1 rs2
  | .cvMax rd rs1 rs2 => encR 0x2d#7 3#3 0x2b#7 rd rs1 rs2
  | .cvMaxu rd rs1 rs2 => encR 0x2e#7 3#3 0x2b#7 rd rs1 rs2
  | .cvExths rd rs1 => encR 0x30#7 3#3 0x2b#7 rd rs1 0#5
  | .cvExthz rd rs1 => encR 0x31#7 3#3 0x2b#7 rd rs1 0#5
  | .cvExtbs rd rs1 => encR 0x32#7 3#3 0x2b#7 rd rs1 0#5
  | .cvExtbz rd rs1 => encR 0x33#7 3#3 0x2b#7 rd rs1 0#5
  | .cvClip rd rs1 is2 => encR 0x38#7 3#3 0x2b#7 rd rs1 is2
  | .cvClipu rd rs1 is2 => encR 0x39#7 3#3 0x2b#7 rd rs1 is2
  | .cvClipr rd rs1 rs2 => encR 0x3a#7 3#3 0x2b#7 rd rs1 rs2
  | .cvClipur rd rs1 rs2 => encR 0x3b#7 3#3 0x2b#7 rd rs1 rs2
  | .cvAddN rd rs1 rs2 is3 => encIs3 0#2 2#3 rd rs1 rs2 is3
  | .cvAdduN rd rs1 rs2 is3 => encIs3 1#2 2#3 rd rs1 rs2 is3
  | .cvAddRN rd rs1 rs2 is3 => encIs3 2#2 2#3 rd rs1 rs2 is3
  | .cvAdduRN rd rs1 rs2 is3 => encIs3 3#2 2#3 rd rs1 rs2 is3
  | .cvSubN rd rs1 rs2 is3 => encIs3 0#2 3#3 rd rs1 rs2 is3
  | .cvSubuN rd rs1 rs2 is3 => encIs3 1#2 3#3 rd rs1 rs2 is3
  | .cvSubRN rd rs1 rs2 is3 => encIs3 2#2 3#3 rd rs1 rs2 is3
  | .cvSubuRN rd rs1 rs2 is3 => encIs3 3#2 3#3 rd rs1 rs2 is3
  | .cvAddNr rd rs1 rs2 => encR 0x40#7 3#3 0x2b#7 rd rs1 rs2
  | .cvAdduNr rd rs1 rs2 => encR 0x41#7 3#3 0x2b#7 rd rs1 rs2
  | .cvAddRNr rd rs1 rs2 => encR 0x42#7 3#3 0x2b#7 rd rs1 rs2
  | .cvAdduRNr rd rs1 rs2 => encR 0x43#7 3#3 0x2b#7 rd rs1 rs2
  | .cvSubNr rd rs1 rs2 => encR 0x44#7 3#3 0x2b#7 rd rs1 rs2
  | .cvSubuNr rd rs1 rs2 => encR 0x45#7 3#3 0x2b#7 rd rs1 rs2
  | .cvSubRNr rd rs1 rs2 => encR 0x46#7 3#3 0x2b#7 rd rs1 rs2
  | .cvSubuRNr rd rs1 rs2 => encR 0x47#7 3#3 0x2b#7 rd rs1 rs2
  | .cvBeqimm rs1 imm5 imm => encB 6#3 0x0b#7 rs1 imm5 imm
  | .cvBneimm rs1 imm5 imm => encB 7#3 0x0b#7 rs1 imm5 imm
  | .cvMuluN rd rs1 rs2 is3 => encIs3 0#2 5#3 rd rs1 rs2 is3
  | .cvMulhhuN rd rs1 rs2 is3 => encIs3 1#2 5#3 rd rs1 rs2 is3
  | .cvMulsN rd rs1 rs2 is3 => encIs3 0#2 4#3 rd rs1 rs2 is3
  | .cvMulhhsN rd rs1 rs2 is3 => encIs3 1#2 4#3 rd rs1 rs2 is3
  | .cvMuluRN rd rs1 rs2 is3 => encIs3 2#2 5#3 rd rs1 rs2 is3
  | .cvMulhhuRN rd rs1 rs2 is3 => encIs3 3#2 5#3 rd rs1 rs2 is3
  | .cvMulsRN rd rs1 rs2 is3 => encIs3 2#2 4#3 rd rs1 rs2 is3
  | .cvMulhhsRN rd rs1 rs2 is3 => encIs3 3#2 4#3 rd rs1 rs2 is3
  | .cvMacuN rd rs1 rs2 is3 => encIs3 0#2 7#3 rd rs1 rs2 is3
  | .cvMachhuN rd rs1 rs2 is3 => encIs3 1#2 7#3 rd rs1 rs2 is3
  | .cvMacsN rd rs1 rs2 is3 => encIs3 0#2 6#3 rd rs1 rs2 is3
  | .cvMachhsN rd rs1 rs2 is3 => encIs3 1#2 6#3 rd rs1 rs2 is3
  | .cvMacuRN rd rs1 rs2 is3 => encIs3 2#2 7#3 rd rs1 rs2 is3
  | .cvMachhuRN rd rs1 rs2 is3 => encIs3 3#2 7#3 rd rs1 rs2 is3
  | .cvMacsRN rd rs1 rs2 is3 => encIs3 2#2 6#3 rd rs1 rs2 is3
  | .cvMachhsRN rd rs1 rs2 is3 => encIs3 3#2 6#3 rd rs1 rs2 is3
  | .cvMac rd rs1 rs2 => encR 0x48#7 3#3 0x2b#7 rd rs1 rs2
  | .cvMsu rd rs1 rs2 => encR 0x49#7 3#3 0x2b#7 rd rs1 rs2
  | .cvAddH rd rs1 rs2 => encSimd 0x00#6 0#1 0#3 rd rs1 rs2
  | .cvAddScH rd rs1 rs2 => encSimd 0x00#6 0#1 4#3 rd rs1 rs2
  | .cvAddSciH rd rs1 imm6 => encImm6 0x00#6 6#3 rd rs1 imm6
  | .cvAddB rd rs1 rs2 => encSimd 0x00#6 0#1 1#3 rd rs1 rs2
  | .cvAddScB rd rs1 rs2 => encSimd 0x00#6 0#1 5#3 rd rs1 rs2
  | .cvAddSciB rd rs1 imm6 => encImm6 0x00#6 7#3 rd rs1 imm6
  | .cvSubH rd rs1 rs2 => encSimd 0x02#6 0#1 0#3 rd rs1 rs2
  | .cvSubScH rd rs1 rs2 => encSimd 0x02#6 0#1 4#3 rd rs1 rs2
  | .cvSubSciH rd rs1 imm6 => encImm6 0x02#6 6#3 rd rs1 imm6
  | .cvSubB rd rs1 rs2 => encSimd 0x02#6 0#1 1#3 rd rs1 rs2
  | .cvSubScB rd rs1 rs2 => encSimd 0x02#6 0#1 5#3 rd rs1 rs2
  | .cvSubSciB rd rs1 imm6 => encImm6 0x02#6 7#3 rd rs1 imm6
  | .cvAvgH rd rs1 rs2 => encSimd 0x04#6 0#1 0#3 rd rs1 rs2
  | .cvAvgScH rd rs1 rs2 => encSimd 0x04#6 0#1 4#3 rd rs1 rs2
  | .cvAvgSciH rd rs1 imm6 => encImm6 0x04#6 6#3 rd rs1 imm6
  | .cvAvgB rd rs1 rs2 => encSimd 0x04#6 0#1 1#3 rd rs1 rs2
  | .cvAvgScB rd rs1 rs2 => encSimd 0x04#6 0#1 5#3 rd rs1 rs2
  | .cvAvgSciB rd rs1 imm6 => encImm6 0x04#6 7#3 rd rs1 imm6
  | .cvAvguH rd rs1 rs2 => encSimd 0x06#6 0#1 0#3 rd rs1 rs2
  | .cvAvguScH rd rs1 rs2 => encSimd 0x06#6 0#1 4#3 rd rs1 rs2
  | .cvAvguSciH rd rs1 imm6 => encImm6 0x06#6 6#3 rd rs1 imm6
  | .cvAvguB rd rs1 rs2 => encSimd 0x06#6 0#1 1#3 rd rs1 rs2
  | .cvAvguScB rd rs1 rs2 => encSimd 0x06#6 0#1 5#3 rd rs1 rs2
  | .cvAvguSciB rd rs1 imm6 => encImm6 0x06#6 7#3 rd rs1 imm6
  | .cvMinH rd rs1 rs2 => encSimd 0x08#6 0#1 0#3 rd rs1 rs2
  | .cvMinScH rd rs1 rs2 => encSimd 0x08#6 0#1 4#3 rd rs1 rs2
  | .cvMinSciH rd rs1 imm6 => encImm6 0x08#6 6#3 rd rs1 imm6
  | .cvMinB rd rs1 rs2 => encSimd 0x08#6 0#1 1#3 rd rs1 rs2
  | .cvMinScB rd rs1 rs2 => encSimd 0x08#6 0#1 5#3 rd rs1 rs2
  | .cvMinSciB rd rs1 imm6 => encImm6 0x08#6 7#3 rd rs1 imm6
  | .cvMinuH rd rs1 rs2 => encSimd 0x0a#6 0#1 0#3 rd rs1 rs2
  | .cvMinuScH rd rs1 rs2 => encSimd 0x0a#6 0#1 4#3 rd rs1 rs2
  | .cvMinuSciH rd rs1 imm6 => encImm6 0x0a#6 6#3 rd rs1 imm6
  | .cvMinuB rd rs1 rs2 => encSimd 0x0a#6 0#1 1#3 rd rs1 rs2
  | .cvMinuScB rd rs1 rs2 => encSimd 0x0a#6 0#1 5#3 rd rs1 rs2
  | .cvMinuSciB rd rs1 imm6 => encImm6 0x0a#6 7#3 rd rs1 imm6
  | .cvMaxH rd rs1 rs2 => encSimd 0x0c#6 0#1 0#3 rd rs1 rs2
  | .cvMaxScH rd rs1 rs2 => encSimd 0x0c#6 0#1 4#3 rd rs1 rs2
  | .cvMaxSciH rd rs1 imm6 => encImm6 0x0c#6 6#3 rd rs1 imm6
  | .cvMaxB rd rs1 rs2 => encSimd 0x0c#6 0#1 1#3 rd rs1 rs2
  | .cvMaxScB rd rs1 rs2 => encSimd 0x0c#6 0#1 5#3 rd rs1 rs2
  | .cvMaxSciB rd rs1 imm6 => encImm6 0x0c#6 7#3 rd rs1 imm6
  | .cvMaxuH rd rs1 rs2 => encSimd 0x0e#6 0#1 0#3 rd rs1 rs2
  | .cvMaxuScH rd rs1 rs2 => encSimd 0x0e#6 0#1 4#3 rd rs1 rs2
  | .cvMaxuSciH rd rs1 imm6 => encImm6 0x0e#6 6#3 rd rs1 imm6
  | .cvMaxuB rd rs1 rs2 => encSimd 0x0e#6 0#1 1#3 rd rs1 rs2
  | .cvMaxuScB rd rs1 rs2 => encSimd 0x0e#6 0#1 5#3 rd rs1 rs2
  | .cvMaxuSciB rd rs1 imm6 => encImm6 0x0e#6 7#3 rd rs1 imm6
  | .cvSrlH rd rs1 rs2 => encSimd 0x10#6 0#1 0#3 rd rs1 rs2
  | .cvSrlScH rd rs1 rs2 => encSimd 0x10#6 0#1 4#3 rd rs1 rs2
  | .cvSrlSciH rd rs1 imm6 => encImm6 0x10#6 6#3 rd rs1 imm6
  | .cvSrlB rd rs1 rs2 => encSimd 0x10#6 0#1 1#3 rd rs1 rs2
  | .cvSrlScB rd rs1 rs2 => encSimd 0x10#6 0#1 5#3 rd rs1 rs2
  | .cvSrlSciB rd rs1 imm6 => encImm6 0x10#6 7#3 rd rs1 imm6
  | .cvSraH rd rs1 rs2 => encSimd 0x12#6 0#1 0#3 rd rs1 rs2
  | .cvSraScH rd rs1 rs2 => encSimd 0x12#6 0#1 4#3 rd rs1 rs2
  | .cvSraSciH rd rs1 imm6 => encImm6 0x12#6 6#3 rd rs1 imm6
  | .cvSraB rd rs1 rs2 => encSimd 0x12#6 0#1 1#3 rd rs1 rs2
  | .cvSraScB rd rs1 rs2 => encSimd 0x12#6 0#1 5#3 rd rs1 rs2
  | .cvSraSciB rd rs1 imm6 => encImm6 0x12#6 7#3 rd rs1 imm6
  | .cvSllH rd rs1 rs2 => encSimd 0x14#6 0#1 0#3 rd rs1 rs2
  | .cvSllScH rd rs1 rs2 => encSimd 0x14#6 0#1 4#3 rd rs1 rs2
  | .cvSllSciH rd rs1 imm6 => encImm6 0x14#6 6#3 rd rs1 imm6
  | .cvSllB rd rs1 rs2 => encSimd 0x14#6 0#1 1#3 rd rs1 rs2
  | .cvSllScB rd rs1 rs2 => encSimd 0x14#6 0#1 5#3 rd rs1 rs2
  | .cvSllSciB rd rs1 imm6 => encImm6 0x14#6 7#3 rd rs1 imm6
  | .cvOrH rd rs1 rs2 => encSimd 0x16#6 0#1 0#3 rd rs1 rs2
  | .cvOrScH rd rs1 rs2 => encSimd 0x16#6 0#1 4#3 rd rs1 rs2
  | .cvOrSciH rd rs1 imm6 => encImm6 0x16#6 6#3 rd rs1 imm6
  | .cvOrB rd rs1 rs2 => encSimd 0x16#6 0#1 1#3 rd rs1 rs2
  | .cvOrScB rd rs1 rs2 => encSimd 0x16#6 0#1 5#3 rd rs1 rs2
  | .cvOrSciB rd rs1 imm6 => encImm6 0x16#6 7#3 rd rs1 imm6
  | .cvXorH rd rs1 rs2 => encSimd 0x18#6 0#1 0#3 rd rs1 rs2
  | .cvXorScH rd rs1 rs2 => encSimd 0x18#6 0#1 4#3 rd rs1 rs2
  | .cvXorSciH rd rs1 imm6 => encImm6 0x18#6 6#3 rd rs1 imm6
  | .cvXorB rd rs1 rs2 => encSimd 0x18#6 0#1 1#3 rd rs1 rs2
  | .cvXorScB rd rs1 rs2 => encSimd 0x18#6 0#1 5#3 rd rs1 rs2
  | .cvXorSciB rd rs1 imm6 => encImm6 0x18#6 7#3 rd rs1 imm6
  | .cvAndH rd rs1 rs2 => encSimd 0x1a#6 0#1 0#3 rd rs1 rs2
  | .cvAndScH rd rs1 rs2 => encSimd 0x1a#6 0#1 4#3 rd rs1 rs2
  | .cvAndSciH rd rs1 imm6 => encImm6 0x1a#6 6#3 rd rs1 imm6
  | .cvAndB rd rs1 rs2 => encSimd 0x1a#6 0#1 1#3 rd rs1 rs2
  | .cvAndScB rd rs1 rs2 => encSimd 0x1a#6 0#1 5#3 rd rs1 rs2
  | .cvAndSciB rd rs1 imm6 => encImm6 0x1a#6 7#3 rd rs1 imm6
  | .cvAbsH rd rs1 => encSimd 0x1c#6 0#1 0#3 rd rs1 0#5
  | .cvAbsB rd rs1 => encSimd 0x1c#6 0#1 1#3 rd rs1 0#5
  | .cvExtractH rd rs1 imm6 => encImm6 0x2e#6 0#3 rd rs1 imm6
  | .cvExtractB rd rs1 imm6 => encImm6 0x2e#6 1#3 rd rs1 imm6
  | .cvExtractuH rd rs1 imm6 => encImm6 0x2e#6 2#3 rd rs1 imm6
  | .cvExtractuB rd rs1 imm6 => encImm6 0x2e#6 3#3 rd rs1 imm6
  | .cvInsertH rd rs1 imm6 => encImm6 0x2e#6 4#3 rd rs1 imm6
  | .cvInsertB rd rs1 imm6 => encImm6 0x2e#6 5#3 rd rs1 imm6
  | .cvDotupH rd rs1 rs2 => encSimd 0x20#6 0#1 0#3 rd rs1 rs2
  | .cvDotupScH rd rs1 rs2 => encSimd 0x20#6 0#1 4#3 rd rs1 rs2
  | .cvDotupSciH rd rs1 imm6 => encImm6 0x20#6 6#3 rd rs1 imm6
  | .cvDotupB rd rs1 rs2 => encSimd 0x20#6 0#1 1#3 rd rs1 rs2
  | .cvDotupScB rd rs1 rs2 => encSimd 0x20#6 0#1 5#3 rd rs1 rs2
  | .cvDotupSciB rd rs1 imm6 => encImm6 0x20#6 7#3 rd rs1 imm6
  | .cvDotuspH rd rs1 rs2 => encSimd 0x22#6 0#1 0#3 rd rs1 rs2
  | .cvDotuspScH rd rs1 rs2 => encSimd 0x22#6 0#1 4#3 rd rs1 rs2
  | .cvDotuspSciH rd rs1 imm6 => encImm6 0x22#6 6#3 rd rs1 imm6
  | .cvDotuspB rd rs1 rs2 => encSimd 0x22#6 0#1 1#3 rd rs1 rs2
  | .cvDotuspScB rd rs1 rs2 => encSimd 0x22#6 0#1 5#3 rd rs1 rs2
  | .cvDotuspSciB rd rs1 imm6 => encImm6 0x22#6 7#3 rd rs1 imm6
  | .cvDotspH rd rs1 rs2 => encSimd 0x24#6 0#1 0#3 rd rs1 rs2
  | .cvDotspScH rd rs1 rs2 => encSimd 0x24#6 0#1 4#3 rd rs1 rs2
  | .cvDotspSciH rd rs1 imm6 => encImm6 0x24#6 6#3 rd rs1 imm6
  | .cvDotspB rd rs1 rs2 => encSimd 0x24#6 0#1 1#3 rd rs1 rs2
  | .cvDotspScB rd rs1 rs2 => encSimd 0x24#6 0#1 5#3 rd rs1 rs2
  | .cvDotspSciB rd rs1 imm6 => encImm6 0x24#6 7#3 rd rs1 imm6
  | .cvSdotupH rd rs1 rs2 => encSimd 0x26#6 0#1 0#3 rd rs1 rs2
  | .cvSdotupScH rd rs1 rs2 => encSimd 0x26#6 0#1 4#3 rd rs1 rs2
  | .cvSdotupSciH rd rs1 imm6 => encImm6 0x26#6 6#3 rd rs1 imm6
  | .cvSdotupB rd rs1 rs2 => encSimd 0x26#6 0#1 1#3 rd rs1 rs2
  | .cvSdotupScB rd rs1 rs2 => encSimd 0x26#6 0#1 5#3 rd rs1 rs2
  | .cvSdotupSciB rd rs1 imm6 => encImm6 0x26#6 7#3 rd rs1 imm6
  | .cvSdotuspH rd rs1 rs2 => encSimd 0x28#6 0#1 0#3 rd rs1 rs2
  | .cvSdotuspScH rd rs1 rs2 => encSimd 0x28#6 0#1 4#3 rd rs1 rs2
  | .cvSdotuspSciH rd rs1 imm6 => encImm6 0x28#6 6#3 rd rs1 imm6
  | .cvSdotuspB rd rs1 rs2 => encSimd 0x28#6 0#1 1#3 rd rs1 rs2
  | .cvSdotuspScB rd rs1 rs2 => encSimd 0x28#6 0#1 5#3 rd rs1 rs2
  | .cvSdotuspSciB rd rs1 imm6 => encImm6 0x28#6 7#3 rd rs1 imm6
  | .cvSdotspH rd rs1 rs2 => encSimd 0x2a#6 0#1 0#3 rd rs1 rs2
  | .cvSdotspScH rd rs1 rs2 => encSimd 0x2a#6 0#1 4#3 rd rs1 rs2
  | .cvSdotspSciH rd rs1 imm6 => encImm6 0x2a#6 6#3 rd rs1 imm6
  | .cvSdotspB rd rs1 rs2 => encSimd 0x2a#6 0#1 1#3 rd rs1 rs2
  | .cvSdotspScB rd rs1 rs2 => encSimd 0x2a#6 0#1 5#3 rd rs1 rs2
  | .cvSdotspSciB rd rs1 imm6 => encImm6 0x2a#6 7#3 rd rs1 imm6
  | .cvShuffleH rd rs1 rs2 => encSimd 0x30#6 0#1 0#3 rd rs1 rs2
  | .cvShuffleSciH rd rs1 imm6 => encImm6 0x30#6 6#3 rd rs1 imm6
  | .cvShuffleB rd rs1 rs2 => encSimd 0x30#6 0#1 1#3 rd rs1 rs2
  | .cvShuffleI0SciB rd rs1 imm6 => encImm6 0x30#6 7#3 rd rs1 imm6
  | .cvShuffleI1SciB rd rs1 imm6 => encImm6 0x32#6 7#3 rd rs1 imm6
  | .cvShuffleI2SciB rd rs1 imm6 => encImm6 0x34#6 7#3 rd rs1 imm6
  | .cvShuffleI3SciB rd rs1 imm6 => encImm6 0x36#6 7#3 rd rs1 imm6
  | .cvShuffle2H rd rs1 rs2 => encSimd 0x38#6 0#1 0#3 rd rs1 rs2
  | .cvShuffle2B rd rs1 rs2 => encSimd 0x38#6 0#1 1#3 rd rs1 rs2
  | .cvPack rd rs1 rs2 => encSimd 0x3c#6 0#1 0#3 rd rs1 rs2
  | .cvPackH rd rs1 rs2 => encSimd 0x3c#6 1#1 0#3 rd rs1 rs2
  | .cvPackhiB rd rs1 rs2 => encSimd 0x3e#6 1#1 1#3 rd rs1 rs2
  | .cvPackloB rd rs1 rs2 => encSimd 0x3e#6 0#1 1#3 rd rs1 rs2
  | .cvCmpeqH rd rs1 rs2 => encSimd 0x01#6 0#1 0#3 rd rs1 rs2
  | .cvCmpeqScH rd rs1 rs2 => encSimd 0x01#6 0#1 4#3 rd rs1 rs2
  | .cvCmpeqSciH rd rs1 imm6 => encImm6 0x01#6 6#3 rd rs1 imm6
  | .cvCmpeqB rd rs1 rs2 => encSimd 0x01#6 0#1 1#3 rd rs1 rs2
  | .cvCmpeqScB rd rs1 rs2 => encSimd 0x01#6 0#1 5#3 rd rs1 rs2
  | .cvCmpeqSciB rd rs1 imm6 => encImm6 0x01#6 7#3 rd rs1 imm6
  | .cvCmpneH rd rs1 rs2 => encSimd 0x03#6 0#1 0#3 rd rs1 rs2
  | .cvCmpneScH rd rs1 rs2 => encSimd 0x03#6 0#1 4#3 rd rs1 rs2
  | .cvCmpneSciH rd rs1 imm6 => encImm6 0x03#6 6#3 rd rs1 imm6
  | .cvCmpneB rd rs1 rs2 => encSimd 0x03#6 0#1 1#3 rd rs1 rs2
  | .cvCmpneScB rd rs1 rs2 => encSimd 0x03#6 0#1 5#3 rd rs1 rs2
  | .cvCmpneSciB rd rs1 imm6 => encImm6 0x03#6 7#3 rd rs1 imm6
  | .cvCmpgtH rd rs1 rs2 => encSimd 0x05#6 0#1 0#3 rd rs1 rs2
  | .cvCmpgtScH rd rs1 rs2 => encSimd 0x05#6 0#1 4#3 rd rs1 rs2
  | .cvCmpgtSciH rd rs1 imm6 => encImm6 0x05#6 6#3 rd rs1 imm6
  | .cvCmpgtB rd rs1 rs2 => encSimd 0x05#6 0#1 1#3 rd rs1 rs2
  | .cvCmpgtScB rd rs1 rs2 => encSimd 0x05#6 0#1 5#3 rd rs1 rs2
  | .cvCmpgtSciB rd rs1 imm6 => encImm6 0x05#6 7#3 rd rs1 imm6
  | .cvCmpgeH rd rs1 rs2 => encSimd 0x07#6 0#1 0#3 rd rs1 rs2
  | .cvCmpgeScH rd rs1 rs2 => encSimd 0x07#6 0#1 4#3 rd rs1 rs2
  | .cvCmpgeSciH rd rs1 imm6 => encImm6 0x07#6 6#3 rd rs1 imm6
  | .cvCmpgeB rd rs1 rs2 => encSimd 0x07#6 0#1 1#3 rd rs1 rs2
  | .cvCmpgeScB rd rs1 rs2 => encSimd 0x07#6 0#1 5#3 rd rs1 rs2
  | .cvCmpgeSciB rd rs1 imm6 => encImm6 0x07#6 7#3 rd rs1 imm6
  | .cvCmpltH rd rs1 rs2 => encSimd 0x09#6 0#1 0#3 rd rs1 rs2
  | .cvCmpltScH rd rs1 rs2 => encSimd 0x09#6 0#1 4#3 rd rs1 rs2
  | .cvCmpltSciH rd rs1 imm6 => encImm6 0x09#6 6#3 rd rs1 imm6
  | .cvCmpltB rd rs1 rs2 => encSimd 0x09#6 0#1 1#3 rd rs1 rs2
  | .cvCmpltScB rd rs1 rs2 => encSimd 0x09#6 0#1 5#3 rd rs1 rs2
  | .cvCmpltSciB rd rs1 imm6 => encImm6 0x09#6 7#3 rd rs1 imm6
  | .cvCmpleH rd rs1 rs2 => encSimd 0x0b#6 0#1 0#3 rd rs1 rs2
  | .cvCmpleScH rd rs1 rs2 => encSimd 0x0b#6 0#1 4#3 rd rs1 rs2
  | .cvCmpleSciH rd rs1 imm6 => encImm6 0x0b#6 6#3 rd rs1 imm6
  | .cvCmpleB rd rs1 rs2 => encSimd 0x0b#6 0#1 1#3 rd rs1 rs2
  | .cvCmpleScB rd rs1 rs2 => encSimd 0x0b#6 0#1 5#3 rd rs1 rs2
  | .cvCmpleSciB rd rs1 imm6 => encImm6 0x0b#6 7#3 rd rs1 imm6
  | .cvCmpgtuH rd rs1 rs2 => encSimd 0x0d#6 0#1 0#3 rd rs1 rs2
  | .cvCmpgtuScH rd rs1 rs2 => encSimd 0x0d#6 0#1 4#3 rd rs1 rs2
  | .cvCmpgtuSciH rd rs1 imm6 => encImm6 0x0d#6 6#3 rd rs1 imm6
  | .cvCmpgtuB rd rs1 rs2 => encSimd 0x0d#6 0#1 1#3 rd rs1 rs2
  | .cvCmpgtuScB rd rs1 rs2 => encSimd 0x0d#6 0#1 5#3 rd rs1 rs2
  | .cvCmpgtuSciB rd rs1 imm6 => encImm6 0x0d#6 7#3 rd rs1 imm6
  | .cvCmpgeuH rd rs1 rs2 => encSimd 0x0f#6 0#1 0#3 rd rs1 rs2
  | .cvCmpgeuScH rd rs1 rs2 => encSimd 0x0f#6 0#1 4#3 rd rs1 rs2
  | .cvCmpgeuSciH rd rs1 imm6 => encImm6 0x0f#6 6#3 rd rs1 imm6
  | .cvCmpgeuB rd rs1 rs2 => encSimd 0x0f#6 0#1 1#3 rd rs1 rs2
  | .cvCmpgeuScB rd rs1 rs2 => encSimd 0x0f#6 0#1 5#3 rd rs1 rs2
  | .cvCmpgeuSciB rd rs1 imm6 => encImm6 0x0f#6 7#3 rd rs1 imm6
  | .cvCmpltuH rd rs1 rs2 => encSimd 0x11#6 0#1 0#3 rd rs1 rs2
  | .cvCmpltuScH rd rs1 rs2 => encSimd 0x11#6 0#1 4#3 rd rs1 rs2
  | .cvCmpltuSciH rd rs1 imm6 => encImm6 0x11#6 6#3 rd rs1 imm6
  | .cvCmpltuB rd rs1 rs2 => encSimd 0x11#6 0#1 1#3 rd rs1 rs2
  | .cvCmpltuScB rd rs1 rs2 => encSimd 0x11#6 0#1 5#3 rd rs1 rs2
  | .cvCmpltuSciB rd rs1 imm6 => encImm6 0x11#6 7#3 rd rs1 imm6
  | .cvCmpleuH rd rs1 rs2 => encSimd 0x13#6 0#1 0#3 rd rs1 rs2
  | .cvCmpleuScH rd rs1 rs2 => encSimd 0x13#6 0#1 4#3 rd rs1 rs2
  | .cvCmpleuSciH rd rs1 imm6 => encImm6 0x13#6 6#3 rd rs1 imm6
  | .cvCmpleuB rd rs1 rs2 => encSimd 0x13#6 0#1 1#3 rd rs1 rs2
  | .cvCmpleuScB rd rs1 rs2 => encSimd 0x13#6 0#1 5#3 rd rs1 rs2
  | .cvCmpleuSciB rd rs1 imm6 => encImm6 0x13#6 7#3 rd rs1 imm6
  | .cvCplxmulR rd rs1 rs2 => encSimd 0x15#6 0#1 0#3 rd rs1 rs2
  | .cvCplxmulRDiv2 rd rs1 rs2 => encSimd 0x15#6 0#1 2#3 rd rs1 rs2
  | .cvCplxmulRDiv4 rd rs1 rs2 => encSimd 0x15#6 0#1 4#3 rd rs1 rs2
  | .cvCplxmulRDiv8 rd rs1 rs2 => encSimd 0x15#6 0#1 6#3 rd rs1 rs2
  | .cvCplxmulI rd rs1 rs2 => encSimd 0x15#6 1#1 0#3 rd rs1 rs2
  | .cvCplxmulIDiv2 rd rs1 rs2 => encSimd 0x15#6 1#1 2#3 rd rs1 rs2
  | .cvCplxmulIDiv4 rd rs1 rs2 => encSimd 0x15#6 1#1 4#3 rd rs1 rs2
  | .cvCplxmulIDiv8 rd rs1 rs2 => encSimd 0x15#6 1#1 6#3 rd rs1 rs2
  | .cvCplxconj rd rs1 => encSimd 0x17#6 0#1 0#3 rd rs1 0#5
  | .cvSubrotmj rd rs1 rs2 => encSimd 0x19#6 0#1 0#3 rd rs1 rs2
  | .cvSubrotmjDiv2 rd rs1 rs2 => encSimd 0x19#6 0#1 2#3 rd rs1 rs2
  | .cvSubrotmjDiv4 rd rs1 rs2 => encSimd 0x19#6 0#1 4#3 rd rs1 rs2
  | .cvSubrotmjDiv8 rd rs1 rs2 => encSimd 0x19#6 0#1 6#3 rd rs1 rs2
  | .cvAddDiv2 rd rs1 rs2 => encSimd 0x1b#6 0#1 2#3 rd rs1 rs2
  | .cvAddDiv4 rd rs1 rs2 => encSimd 0x1b#6 0#1 4#3 rd rs1 rs2
  | .cvAddDiv8 rd rs1 rs2 => encSimd 0x1b#6 0#1 6#3 rd rs1 rs2
  | .cvSubDiv2 rd rs1 rs2 => encSimd 0x1d#6 0#1 2#3 rd rs1 rs2
  | .cvSubDiv4 rd rs1 rs2 => encSimd 0x1d#6 0#1 4#3 rd rs1 rs2
  | .cvSubDiv8 rd rs1 rs2 => encSimd 0x1d#6 0#1 6#3 rd rs1 rs2
  | .cAddi4spn rd imm =>
    .half (word16 0#3 (imm.extractLsb' 3 1) (imm.extractLsb' 2 1 ++ imm.extractLsb' 4 4)
      (imm.extractLsb' 0 1 ++ imm.extractLsb' 1 1 ++ rd) 0#2)
  | .cLw rd rs1 imm => encCl 2#3 rd rs1 imm
  | .cSw rs2 rs1 imm => encCl 6#3 rs2 rs1 imm
  | .cFlw rd rs1 imm => encCl 3#3 rd rs1 imm
  | .cFsw rs2 rs1 imm => encCl 7#3 rs2 rs1 imm
  | .cNop imm => encCi 0#3 0#5 imm 1#2
  | .cAddi rd imm => encCi 0#3 rd imm 1#2
  | .cJal imm => encCj 1#3 imm
  | .cLi rd imm => encCi 2#3 rd imm 1#2
  | .cAddi16sp imm =>
    .half (word16 3#3 (imm.extractLsb' 5 1) 2#5
      (imm.extractLsb' 0 1 ++ imm.extractLsb' 2 1 ++ imm.extractLsb' 3 2 ++ imm.extractLsb' 1 1) 1#2)
  | .cLui rd imm => encCi 3#3 rd imm 1#2
  | .cSrli rd shamt => encCa 0#1 0#2 rd shamt
  | .cSrai rd shamt => encCa 0#1 1#2 rd shamt
  | .cAndi rd imm => encCa (imm.extractLsb' 5 1) 2#2 rd (imm.extractLsb' 0 5)
  | .cSub rd rs2 => encCa 0#1 3#2 rd (0#2 ++ rs2)
  | .cXor rd rs2 => encCa 0#1 3#2 rd (1#2 ++ rs2)
  | .cOr rd rs2 => encCa 0#1 3#2 rd (2#2 ++ rs2)
  | .cAnd rd rs2 => encCa 0#1 3#2 rd (3#2 ++ rs2)
  | .cJ imm => encCj 5#3 imm
  | .cBeqz rs1 imm => encCb 6#3 rs1 imm
  | .cBnez rs1 imm => encCb 7#3 rs1 imm
  | .cSlli rd shamt => encCi 0#3 rd (0#1 ++ shamt) 2#2
  | .cLwsp rd imm => encLwsp 2#3 rd imm
  | .cFlwsp rd imm => encLwsp 3#3 rd imm
  | .cJr rs1 => .half (word16 4#3 0#1 rs1 0#5 2#2)
  | .cMv rd rs2 => .half (word16 4#3 0#1 rd rs2 2#2)
  | .cEbreak => .half (word16 4#3 1#1 0#5 0#5 2#2)
  | .cJalr rs1 => .half (word16 4#3 1#1 rs1 0#5 2#2)
  | .cAdd rd rs2 => .half (word16 4#3 1#1 rd rs2 2#2)
  | .cSwsp rs2 imm => encSwsp 6#3 rs2 imm
  | .cFswsp rs2 imm => encSwsp 7#3 rs2 imm

/-- The bytes of an instruction's words as memory holds them, the lowest-addressed first (20_memory R134). -/
def codeBytes : Code → List Byte
  | .half h => [h.extractLsb' 0 8, h.extractLsb' 8 8]
  | .full w => [w.extractLsb' 0 8, w.extractLsb' 8 8, w.extractLsb' 16 8, w.extractLsb' 24 8]

/-- Decoding what `encode` gives. -/
def decodeCode : Code → Decoded
  | .half h => decode16 h
  | .full w => decode32 w

/-- Is the instruction 16 bits long (41_rv32c R260)? -/
def isCompressed (i : Instr) : Bool :=
  match encode i with
  | .half _ => true
  | .full _ => false

/-- The length of an instruction in bytes (R160). -/
def instrLength (i : Instr) : Word := if isCompressed i then 2 else 4

/-- The instruction that the decoder reads from the bits of `w`: `nbits` bits given by the opcode table, zeros above, laid
out as little-endian bytes (20_memory R134). -/
def decodeTableWord (nbits w : Nat) : Option Instr :=
  let v : Word := BitVec.ofNat 32 (w % 2 ^ nbits)
  match decodeBytes (codeBytes (.full v)) with
  | .ok (i, _) => some i
  | .error _ => none

end

end Sys2Proof
end

