-- ==== Sys2Proof/Machine/LoopRules.lean ====
section
/-! DEFINITION. When an instruction violates a constraint of the hardware loops (spec/45_xcv_hwloop.md R411, R412, R414;
notes/assumptions/12.md). Address ranges are compared as unsigned numbers that do not wrap. -/

namespace Sys2Proof.Machine

noncomputable section

/-- Is `pc` in the body of an active loop (R411)? -/
def HwLoop.covers (l : HwLoop) (pc : Word) : Bool :=
  l.count != 0 && decide (l.start.toNat ≤ pc.toNat) && decide (pc.toNat + 4 ≤ l.stop.toNat)

/-- The jumps and branches (R414; R412 item 11). -/
def isJumpOrBranch : Instr → Bool
  | .jal .. | .jalr .. | .beq .. | .bne .. | .blt .. | .bge .. | .bltu .. | .bgeu .. => true
  | .cJ .. | .cJal .. | .cJr .. | .cJalr .. | .cBeqz .. | .cBnez .. => true
  | .cvBeqimm .. | .cvBneimm .. => true
  | _ => false

/-- `fence`, `fence.i`, `mret`, `dret` and `wfi`, which a body may not hold (R412 items 12 and 13). -/
def isFenceOrPrivileged : Instr → Bool
  | .fence .. | .fenceI .. | .mret | .dret | .wfi => true
  | _ => false

/-- What a hardware-loop instruction writes. -/
structure LoopWrite where
  /-- The register set. -/
  l : BitVec 1
  /-- It writes the start or the end address. -/
  bounds : Bool
  /-- It writes the count. -/
  count : Bool
  deriving DecidableEq, Repr

/-- The loop registers that an instruction writes (R415 to R422). -/
def loopWrite : Instr → Option LoopWrite
  | .cvStarti l _ | .cvStart l _ | .cvEndi l _ | .cvEnd l _ => some { l := l, bounds := true, count := false }
  | .cvCounti l _ | .cvCount l _ => some { l := l, bounds := false, count := true }
  | .cvSetupi l _ _ | .cvSetup l _ _ => some { l := l, bounds := true, count := true }
  | _ => none

/-- Does `i` write a register of set `l`? -/
def writesLoop (i : Instr) (l : BitVec 1) : Bool :=
  match loopWrite i with
  | some w => w.l == l
  | none => false

/-- `i` at `pc` is not allowed in the body of loop `l` (R412 items 9 to 13). -/
def forbiddenInBody (i : Instr) (l : BitVec 1) : Bool :=
  isCompressed i || isJumpOrBranch i || isFenceOrPrivileged i || writesLoop i l

/-- Loop `l` may not start counting with the bounds it has (R412 items 3, 6 and 7), in the state `t` after the write. -/
def badCount (t : State) (l : BitVec 1) : Bool :=
  (t.loop l).count != 0 &&
    (decide ((t.loop l).stop.toNat < (t.loop l).start.toNat + 12) ||
      (t.loop0.count != 0 && t.loop1.count != 0 && decide (t.loop1.stop.toNat < t.loop0.stop.toNat + 8)))

/-- A hardware-loop instruction at an address that is no multiple of 4, one that writes the bounds of a loop whose count is not 0,
or one that starts a loop whose bounds are not allowed (R412 items 1, 3, 4, 6, 7). -/
def badSetup (i : Instr) (s t : State) : Bool :=
  match loopWrite i with
  | none => false
  | some w =>
    s.pc.extractLsb' 0 2 != 0 || (w.bounds && (s.loop w.l).count != 0) || (w.count && badCount t w.l)

/-- Control arrives at `dst` inside the body of loop `l` without having passed its start, from the instruction at `src` (R412
item 8). -/
def entersBody (l : HwLoop) (src dst : Word) : Bool := l.covers dst && dst != l.start && src + 4 != dst

/-- The instruction of `s` was the last of the body of loop 0, inside the body of loop 1, and loop 0 has counted: going on with the
inner loop enters nothing (R426). -/
def innerLoopBack (s t : State) : Bool :=
  s.loop1.covers s.pc && s.loopBack == some 0 && t.loop0.count != s.loop0.count

/-- Executing the instruction of `s` has led control into the body of an active loop of `t` elsewhere than at its start (R414). A
`cv.elw` that waits has led it nowhere. -/
def arrivesInBody (s t : State) : Bool :=
  t.elwWaiting.isNone &&
    (entersBody t.loop0 s.pc t.pc || (entersBody t.loop1 s.pc t.pc && !innerLoopBack s t))

/-- `i` returns from a trap or from Debug Mode: it goes back into a body that the trap has left (R424, R425). -/
def returnsFromTrap (i : Instr) (s : State) : Bool :=
  match i with
  | .mret => !s.debugMode
  | .dret => s.debugMode
  | _ => false

/-- Executing `i` in `s` with outcome `t` violates a constraint of the hardware loops (R414). -/
def loopViolation (i : Instr) (s t : State) : Bool :=
  s.cfg.corevPulp &&
    ((s.loop0.covers s.pc && forbiddenInBody i 0) || (s.loop1.covers s.pc && forbiddenInBody i 1) || badSetup i s t
      || (!returnsFromTrap i s && arrivesInBody s t))

/-- The same for a word `w` fetched at `s.pc` that is no instruction, whose trap gives `t` (R414; notes/assumptions/30.md): a 16-bit
parcel, one whose bits 1:0 are not 11 (30_encoding R160), may not stand in a body, and the trap may not arrive in one. -/
def undecodableViolation (w : Word) (s t : State) : Bool :=
  s.cfg.corevPulp &&
    (((s.loop0.covers s.pc || s.loop1.covers s.pc) && w.extractLsb' 0 2 != 3) || arrivesInBody s t)

end

end Sys2Proof.Machine
end

