-- ==== Sys2Proof/Machine/Boundary.lean ====
section
/-! DEFINITION. The instruction boundary: reset release, sleep and wake-up, and the five lines of a step (spec/60_exceptions.md
R819, R880 to R882). `step` of Machine/Step.lean calls these. -/

namespace Sys2Proof.Machine

noncomputable section

/-- A wake-up condition of `wfi` holds (R880). -/
def State.wfiWakes (s : State) : Bool := s.mip &&& s.mie != 0 || s.debugRequested || s.debugMode

/-- A sleeping `cv.elw` wakes the hart: its response arrives, a debug request is pending, served or not (R400), or, unless U7 says
otherwise, an interrupt is to be taken (R881). -/
def State.elwWakes (s : State) : Bool :=
  !s.dataStall || s.debugRequested || (s.cfg.elwInterruptible && s.interruptToTake.isSome)

/-- Does the sleeping hart wake up? -/
def State.wakes (s : State) : Bool := if s.elwWaiting.isSome then s.elwWakes else s.wfiWakes

/-- The state in which a step of the awake hart begins: time passes, the outputs of the last step are gone. -/
def State.beginStep (s : State) : State := { s.tick with sleeping := false, elwWaiting := none, irqAck := none }

/-- Lines (1) to (4) of R819, what happens instead of the instruction at `pc`. -/
def State.boundary (s : State) : Option State :=
  if s.debugRequested && !s.debugMode then some (s.enterDebug 3)
  else if s.stepPhase == .due then some (s.enterDebug 4)
  else
    match s.interruptToTake with
    | some id => some (s.takeInterrupt id)
    | none => if s.triggerAt s.pc then some (s.enterDebug 2) else none

/-- Lines (1) to (4) are not evaluated while a `cv.elw` waits that may not be interrupted (U7). -/
def State.boundaryOpen (s : State) : Bool := s.elwWaiting.isNone || s.cfg.elwInterruptible

/-- `s` began with a single step in progress: its one instruction has now executed, unless Debug Mode was entered or a `cv.elw`
still waits (R855). -/
def State.afterStep (s t : State) : State :=
  if s.stepPhase == .armed && !t.debugMode && t.elwWaiting.isNone then { t with stepPhase := .due } else t

/-- Executing the decoded instruction `i`: its meaning, the check of the hardware-loop constraints, the single step. -/
def runInstr (i : Instr) (s : State) : Result :=
  match exec i s with
  | .next t => if loopViolation i s t then .refused .hwLoopViolation else .next (s.afterStep t)
  | .fault r => .fault r
  | .refused r => .refused r

/-- A word that is no instruction is illegal (R822). -/
def runUndecodable (s : State) : Result :=
  if undecodableViolation s.fetch s (s.raise 2) then .refused .hwLoopViolation else .next (s.afterStep (s.raise 2))

/-- What the decoder says of the instruction at `pc`. -/
def runDecoded (d : Decoded) (s : State) : Result :=
  match d with
  | .ok i => runInstr i s
  | .error _ => runUndecodable s

/-- Line (5) of R819. -/
def State.fetchAndRun (s : State) : Result := runDecoded (decode s.fetch) s

/-- A `cv.elw` that waits goes on as the instruction that it is, whatever its address holds by now (R400); otherwise line (5). -/
def State.goOn (s : State) (waiting : Option EventRead) : Result :=
  match waiting with
  | some w => runInstr (.cvElw w.rd w.rs1 w.imm) s
  | none => s.fetchAndRun

/-- A step of the hart out of reset, fetch-enabled and awake (R819); `s` is the state before it. -/
def State.awakeStep (s : State) : Result :=
  let b := s.beginStep
  match (if s.boundaryOpen then b.boundary else none) with
  | some t => .next t
  | none => b.goOn s.elwWaiting

/-- A step of the fetch-enabled hart: the clock, sleep, and waking up (R880, R881). -/
def State.runningStep (s : State) : Result :=
  if s.cfg.corevCluster && !s.pulpClockEn then
    (if s.sleeping then .next s else .refused .clockGatedAwake)
  else if s.sleeping && !s.wakes then .next s
  else s.awakeStep

/-- Waiting for `fetch_enable_i` (10_state R108, R882). A debug request that is pending when it is sampled takes the hart straight
into Debug Mode, which is then the first step of R819 (10_state R105, 70 R900). -/
def State.startStep (s : State) : Result :=
  if !s.fetchEnablePin then .next s
  else if s.debugRequested && !s.debugMode then State.runningStep { s with fetchEnabled := true }
  else .next { s with fetchEnabled := true }

end

end Sys2Proof.Machine
end

