-- ==== Sys2Proof/Machine/Step.lean ====
section
/-! DEFINITION. One step of the machine (spec/60_exceptions.md R819), and placing an instruction where it fetches. -/

namespace Sys2Proof.Machine

noncomputable section

/-- One step: waiting for fetch enable, asleep, a boundary event, or one instruction. -/
def step (s : State) : Host.Outcome State Fault Refusal :=
  if !s.cfg.legal then .refused .illegalConfiguration
  else if !s.fetchEnabled then s.startStep
  else s.runningStep

/-- `s` with the `nbits` low bits of `w`, and zeros above, stored at `pc`, fetch enabled, awake and nothing prefetched: the next step
fetches exactly it (notes/assumptions/6.md). -/
def State.withFetchWord (s : State) (nbits w : Nat) : State :=
  let v : Word := BitVec.ofNat 32 (w % 2 ^ nbits)
  { s with
    fetchEnabled := true
    sleeping := false
    elwWaiting := none
    stale := []
    mem := s.mem.setWord s.pc v
    imem := s.imem.setWord s.pc v }

end

end Sys2Proof.Machine
end

