-- ==== Sys2Proof/Machine/Env.lean ====
section
/-! DEFINITION. What the outside world can do to the machine between two steps (spec/00_scope.md R16, R25; 60_exceptions R830,
R851; 20_memory R147; notes/assumptions/8.md). `step` reads the input lines and never changes them. -/

namespace Sys2Proof.Machine

noncomputable section

/-- The lines irq_i change (60_exceptions R828). -/
def State.driveIrq (s : State) (lines : Word) : State := { s with irq := lines }

/-- The line debug_req_i changes; asserted outside Debug Mode it is remembered until Debug Mode is entered (R851). -/
def State.driveDebugReq (s : State) (b : Bool) : State :=
  { s with debugReq := b, debugPending := s.debugPending || (b && !s.debugMode) }

/-- The line fetch_enable_i changes (10_state R108). -/
def State.driveFetchEnable (s : State) (b : Bool) : State := { s with fetchEnablePin := b }

/-- The line pulp_clock_en_i changes (60_exceptions R881). -/
def State.drivePulpClock (s : State) (b : Bool) : State := { s with pulpClockEn := b }

/-- The Event Unit withholds or gives its responses (44_xcv_mem_elw R400). -/
def State.driveDataStall (s : State) (b : Bool) : State := { s with dataStall := b }

/-- Another bus master stores a byte (20_memory R147); the core may still hold the word fetched before. -/
def State.busStore (s : State) (a : Word) (b : Byte) : State :=
  let t := s.noteWord a
  { t with mem := t.mem.setByte a b }

/-- A byte of the instruction memory of a platform with SPLIT_I_D_MEMORY is loaded (93 U1); the core may still hold the word fetched
before. -/
def State.loadCode (s : State) (a : Word) (b : Byte) : State :=
  let t := if s.cfg.splitIDMemory then s.keepOld a else s
  { t with imem := t.imem.setByte a b }

/-- `rst_ni` is asserted and released (70 R900): every register takes its reset value, memory and the input lines stay. A debug
request whose line is high is asserted after the release, and so pending (10_state R105). -/
def State.assertReset (s : State) : State :=
  { State.resetWith s.cfg with
    debugPending := s.debugReq
    mem := s.mem
    imem := s.imem
    irq := s.irq
    debugReq := s.debugReq
    fetchEnablePin := s.fetchEnablePin
    pulpClockEn := s.pulpClockEn
    dataStall := s.dataStall
    draws := s.draws }

/-- The debug status outputs debug_havereset_o, debug_running_o and debug_halted_o, in this order (60_exceptions R857). -/
def State.debugStatus (s : State) : Bool × Bool × Bool :=
  (!s.fetchEnabled, s.fetchEnabled && !s.debugMode, s.fetchEnabled && s.debugMode)

/-- The output core_sleep_o (10_state R106): it falls as soon as something wakes the hart (60_exceptions R880, R881). -/
def State.coreSleep (s : State) : Bool := s.sleeping && !s.wakes

end

end Sys2Proof.Machine
end

