-- ==== Sys2Proof/Safety.lean ====
section
/-! DEFINITION. The terms that claims use: what holds in every state that a run reaches, and what completing an instruction,
taking an exception and entering Debug Mode mean, said field by field. -/

namespace Sys2Proof.Machine

/-- The bits `m` of `w` are those of `v`. -/
def bitsAre (w m v : Word) : Prop := w &&& m = v

/-- The fixed bits of the control and status registers (10_state R48 to R70). -/
structure State.CsrInv (s : State) : Prop where
  /-- mstatus: MPP reads 11 and only MIE, MPIE and, where it exists, FS are stored (R48). -/
  mstatus : bitsAre s.mstatus (~~~ mstatusMask s.cfg) 0x1800
  /-- mie has the bits of the 19 usable interrupts (R51). -/
  mie : bitsAre s.mie 0x0000F777 0
  /-- mtvec: bits 7:1 read 0 (R52). -/
  mtvec : bitsAre s.mtvec 0x000000FE 0
  /-- mepc: bit 0 reads 0 (R54). -/
  mepc : bitsAre s.mepc 0x1 0
  /-- mcause holds a cause that the hart has (R55). -/
  mcause : mcauseLegal s.mcause = true ∧ bitsAre s.mcause 0x7FFFFFE0 0
  /-- tdata1: all bits but `execute` are fixed (R59). -/
  tdata1 : bitsAre s.tdata1 0xFFFFFFFB 0x28001040
  /-- dcsr: all bits but ebreakm, stepie, cause and step are fixed (R65). -/
  dcsr : bitsAre s.dcsr 0xFFFF763B 0x40000003
  /-- dpc: bit 0 reads 0 (R66). -/
  dpc : bitsAre s.dpc 0x1 0
  /-- mcountinhibit has the bits of the implemented counters (R69). -/
  mcountinhibit : bitsAre s.mcountinhibit (~~~ countInhibitMask s.cfg) 0
  /-- An event counter that is not implemented and its selector read 0 (R70, R73). -/
  hpm : ∀ i : Fin 29, s.cfg.numMhpmcounters ≤ i.val → s.hpmCounter[i] = 0 ∧ s.hpmEvent[i] = 0

/-- The addresses of a hardware loop are multiples of 4 (10_state R45, R46). -/
def HwLoop.aligned (l : HwLoop) : Prop := bitsAre l.start 0x3 0 ∧ bitsAre l.stop 0x3 0

/-- What holds in every state that a run reaches. -/
structure State.Inv (s : State) : Prop where
  /-- The memory is in canonical form. -/
  mem : s.mem.wf = true
  /-- So is the instruction memory. -/
  imem : s.imem.wf = true
  /-- The hard-wired register (10_state R30). -/
  x0 : s.x[0] = 0
  /-- Bit 0 of the pc is 0 (10_state R33). -/
  pc : bitsAre s.pc 0x1 0
  csr : s.CsrInv
  loop0 : s.loop0.aligned
  loop1 : s.loop1.aligned
  /-- Without COREV_PULP the loop registers do not exist, and no loop is active (45_xcv_hwloop R410). -/
  noLoops : s.cfg.corevPulp = false → s.loop0.count = 0 ∧ s.loop1.count = 0
  /-- In Debug Mode no single step is in progress (60_exceptions R855). -/
  debug : s.debugMode = true → s.stepPhase = .idle
  /-- In Debug Mode the hart does not sleep (60_exceptions R880, R881). -/
  sleep : s.debugMode = true → s.sleeping = false
  /-- A debug request whose line is high outside Debug Mode has been latched (60_exceptions R851, 92 D16; notes/assumptions/31.md). -/
  request : s.debugReq = true → s.debugMode = false → s.debugPending = true

/-! ### Completing an instruction -/

/-- The instruction of `s` is the last of the body of active loop 0 (45_xcv_hwloop R413). -/
def State.endsLoop0 (s : State) : Prop :=
  s.cfg.corevPulp = true ∧ s.loop0.count ≠ 0 ∧ s.pc = s.loop0.stop - 4

/-- The same for loop 1: loop 0 goes first (R413). -/
def State.endsLoop1 (s : State) : Prop :=
  s.cfg.corevPulp = true ∧ ¬ s.endsLoop0 ∧ s.loop1.count ≠ 0 ∧ s.pc = s.loop1.stop - 4

/-- The next pc of an instruction of `len` bytes that assigns `target` to the pc, or nothing (10_state R34, 45_xcv_hwloop R413; in Debug
Mode too, a choice of the spec, 92 D7, that the model takes, notes/assumptions/36.md). -/
def NextPc (s : State) (len : Word) (target : Option Word) (p : Word) : Prop :=
  match target with
  | some a => p = a &&& 0xFFFFFFFE
  | none =>
    (s.endsLoop0 → p = if s.loop0.count = 1 then s.pc + len else s.loop0.start) ∧
    (s.endsLoop1 → p = if s.loop1.count = 1 then s.pc + len else s.loop1.start) ∧
    (¬ s.endsLoop0 → ¬ s.endsLoop1 → p = s.pc + len)

/-- The LD event of an instruction that completes (60_exceptions R872). -/
def evLoad : BitVec 16 := 0x0020
/-- The ST event. -/
def evStore : BitVec 16 := 0x0040
/-- The JUMP event. -/
def evJump : BitVec 16 := 0x0080
/-- The BRANCH event. -/
def evBranch : BitVec 16 := 0x0100
/-- The BRANCH_TAKEN event. -/
def evTaken : BitVec 16 := 0x0200

/-- All events of a completing instruction: MINSTR, COMP_INSTR for 16 bits, and its own. -/
def eventsOf (len : Word) (ev : BitVec 16) : BitVec 16 := 0x0002 ||| (if len = 2 then 0x0400 else 0) ||| ev

/-- Event counter `i` + 3 of `s` counts an instruction with the events `ev`: it is implemented and not inhibited, and its
selector is one of the events. -/
def Counts (s : State) (i : Nat) (sel ev : BitVec 16) : Prop :=
  i < s.cfg.numMhpmcounters ∧ s.mcountinhibit.getLsbD (i + 3) = false ∧ sel &&& (sel - 1) = 0 ∧ sel &&& ev ≠ 0

/-- The instruction begun in `s` has completed and left `t`; `e` is `s` with the instruction's own effect on registers other than
those named here. -/
structure Completes (e s t : State) (len : Word) (target : Option Word) (ev : BitVec 16) : Prop where
  pc : NextPc s len target t.pc
  /-- The end of loop 0's body counts its iterations down (R413). -/
  loop0 : (target = none ∧ s.endsLoop0 → t.loop0 = { e.loop0 with count := s.loop0.count - 1 }) ∧
    (¬ (target = none ∧ s.endsLoop0) → t.loop0 = e.loop0)
  loop1 : (target = none ∧ s.endsLoop1 → t.loop1 = { e.loop1 with count := s.loop1.count - 1 }) ∧
    (¬ (target = none ∧ s.endsLoop1) → t.loop1 = e.loop1)
  /-- R871. -/
  minstret : t.minstret = if s.mcountinhibit.getLsbD 2 then e.minstret else e.minstret + 1
  /-- R872. -/
  hpm : ∀ i : Fin 29,
    (Counts s i s.hpmEvent[i] (eventsOf len ev) → t.hpmCounter[i] = e.hpmCounter[i] + 1) ∧
    (¬ Counts s i s.hpmEvent[i] (eventsOf len ev) → t.hpmCounter[i] = e.hpmCounter[i])
  /-- Nothing prefetched survives a jump (20_memory R151). -/
  stale : (target ≠ none → t.stale = []) ∧ (target = none ∧ t.pc = s.pc + len → t.stale = e.stale ∨ t.stale = [])
  /-- Every other field but the register files and memory, which each claim names itself, is that of `e`. -/
  others : t = { e with
    x := t.x, f := t.f, mem := t.mem, pc := t.pc, loop0 := t.loop0, loop1 := t.loop1, minstret := t.minstret,
    hpmCounter := t.hpmCounter, stale := t.stale }

/-- Every integer register reads as before, but `rd` reads `v`; x0 reads 0 (10_state R30). -/
def WritesReg (s t : State) (rd : Reg) (v : Word) : Prop :=
  ∀ q : Reg, t.reg q = if q = 0 then 0 else if q = rd then v else s.reg q

/-- Every byte of memory reads as before. -/
def KeepsMemory (s t : State) : Prop := ∀ a : Word, t.mem.byte a = s.mem.byte a

/-- The `n` bytes from `a` on read as the low bytes of `v`, the least significant first (20_memory R134), and every other byte as
before. -/
def StoresBytes (s t : State) (a : Word) (n : Nat) (v : Word) : Prop :=
  (∀ k : Nat, k < n → t.mem.byte (a + BitVec.ofNat 32 k) = v.extractLsb' (8 * k) 8) ∧
  (∀ b : Word, (∀ k : Nat, k < n → b ≠ a + BitVec.ofNat 32 k) → t.mem.byte b = s.mem.byte b)

/-- Executing `i` in `s` completes: `rd` receives `v`, the next pc and the counters are those of an instruction with this
length, pc target and events, and nothing else changes but what `e` says. -/
def CompletesWith (e s : State) (i : Instr) (rd : Reg) (v len : Word) (target : Option Word) (ev : BitVec 16) : Prop :=
  ∃ t, exec i s = .next t ∧ WritesReg s t rd v ∧ t.f = s.f ∧ KeepsMemory s t ∧ Completes e s t len target ev

/-- Executing `i` in `s` writes `v` to `rd` and does nothing else. -/
def Gives (s : State) (i : Instr) (len : Word) (rd : Reg) (v : Word) : Prop := CompletesWith s s i rd v len none 0

/-- Executing `i` in `s` loads `v` into `rd` and does nothing else. -/
def Loads (s : State) (i : Instr) (len : Word) (rd : Reg) (v : Word) : Prop := CompletesWith s s i rd v len none evLoad

/-- Executing `i` in `s` stores the `n` low bytes of `v` from `a` on and does nothing else; x0 stands for no register. The words
that the prefetcher may hold are remembered by `noteWords`, within a window that the model chose (notes/assumptions/11.md). -/
def Stores (s : State) (i : Instr) (len a : Word) (n : Nat) (v : Word) (base : Reg) (after : Word) : Prop :=
  ∃ t, exec i s = .next t ∧ WritesReg s t base after ∧ t.f = s.f ∧ StoresBytes s t a n v ∧
    Completes (s.noteWords a (BitVec.ofNat 32 (n - 1))) s t len none evStore

/-- Executing `i` in `s` jumps to `target`, `rd` receiving the address after the instruction, and does nothing else. -/
def JumpsTo (s : State) (i : Instr) (len : Word) (rd : Reg) (target : Word) : Prop :=
  CompletesWith s s i rd (s.pc + len) len (some target) evJump

/-- Executing `i` in `s` goes to `target` when `taken` holds and on to the next instruction when it does not. -/
def Branches (s : State) (i : Instr) (len : Word) (taken : Prop) (target : Word) : Prop :=
  (taken → CompletesWith s s i 0 0 len (some target) (evBranch ||| evTaken)) ∧
  (¬ taken → CompletesWith s s i 0 0 len none evBranch)

/-! ### SIMD -/

/-- Halfword element `k` of `w` (48 R540). -/
def half (w : Word) (k : Fin 2) : BitVec 16 := w.extractLsb' (16 * k.val) 16

/-- Byte element `k` of `w`. -/
def lane (w : Word) (k : Fin 4) : Byte := w.extractLsb' (8 * k.val) 8

/-- Executing `i` in `s` gives `rd` a vector with the halfword elements `g`. -/
def GivesHalves (s : State) (i : Instr) (rd : Reg) (g : Fin 2 → BitVec 16) : Prop :=
  ∃ v, (∀ k, half v k = g k) ∧ Gives s i 4 rd v

/-- Executing `i` in `s` gives `rd` a vector with the byte elements `g`. -/
def GivesBytes (s : State) (i : Instr) (rd : Reg) (g : Fin 4 → Byte) : Prop :=
  ∃ v, (∀ k, lane v k = g k) ∧ Gives s i 4 rd v

/-- A six-bit immediate as an element, sign- or zero-extended (48 R542). -/
def immElem (n : Nat) (signed : Bool) (imm : BitVec 6) : BitVec n := if signed then imm.signExtend n else imm.setWidth n

/-- The constructors of the six forms of a SIMD mnemonic (48 R541). -/
structure SixForms where
  h : Reg → Reg → Reg → Instr
  scH : Reg → Reg → Reg → Instr
  sciH : Reg → Reg → BitVec 6 → Instr
  b : Reg → Reg → Reg → Instr
  scB : Reg → Reg → Reg → Instr
  sciB : Reg → Reg → BitVec 6 → Instr

/-- Every form of `F` applies `op` to the elements of `rs1` and of its second operand: the elements of `rs2`, the lowest element of
`rs2`, or the immediate. -/
structure ElementWise (s : State) (rd rs1 rs2 : Reg) (imm : BitVec 6) (F : SixForms) (signed : Bool)
    (op : (n : Nat) → BitVec n → BitVec n → BitVec n) : Prop where
  h : GivesHalves s (F.h rd rs1 rs2) rd (fun k => op 16 (half (s.reg rs1) k) (half (s.reg rs2) k))
  scH : GivesHalves s (F.scH rd rs1 rs2) rd (fun k => op 16 (half (s.reg rs1) k) (half (s.reg rs2) 0))
  sciH : GivesHalves s (F.sciH rd rs1 imm) rd (fun k => op 16 (half (s.reg rs1) k) (immElem 16 signed imm))
  b : GivesBytes s (F.b rd rs1 rs2) rd (fun k => op 8 (lane (s.reg rs1) k) (lane (s.reg rs2) k))
  scB : GivesBytes s (F.scB rd rs1 rs2) rd (fun k => op 8 (lane (s.reg rs1) k) (lane (s.reg rs2) 0))
  sciB : GivesBytes s (F.sciB rd rs1 imm) rd (fun k => op 8 (lane (s.reg rs1) k) (immElem 8 signed imm))

/-- An element as an integer. -/
def elemInt (signed : Bool) {n : Nat} (x : BitVec n) : Int := if signed then x.toInt else x.toNat

/-- Every form of `F` adds the products of the elements of `rs1` and of its second operand to `acc`, modulo 2^32 (49 R661); `sx` and
`sy` say which elements are signed. -/
structure DotProducts (s : State) (rd rs1 rs2 : Reg) (imm : BitVec 6) (F : SixForms) (signed sx sy : Bool) (acc : Int) :
    Prop where
  h : Gives s (F.h rd rs1 rs2) 4 rd (BitVec.ofInt 32
    (acc + ∑ k, elemInt sx (half (s.reg rs1) k) * elemInt sy (half (s.reg rs2) k)))
  scH : Gives s (F.scH rd rs1 rs2) 4 rd (BitVec.ofInt 32
    (acc + ∑ k, elemInt sx (half (s.reg rs1) k) * elemInt sy (half (s.reg rs2) 0)))
  sciH : Gives s (F.sciH rd rs1 imm) 4 rd (BitVec.ofInt 32
    (acc + ∑ k, elemInt sx (half (s.reg rs1) k) * elemInt sy (immElem 16 signed imm)))
  b : Gives s (F.b rd rs1 rs2) 4 rd (BitVec.ofInt 32
    (acc + ∑ k, elemInt sx (lane (s.reg rs1) k) * elemInt sy (lane (s.reg rs2) k)))
  scB : Gives s (F.scB rd rs1 rs2) 4 rd (BitVec.ofInt 32
    (acc + ∑ k, elemInt sx (lane (s.reg rs1) k) * elemInt sy (lane (s.reg rs2) 0)))
  sciB : Gives s (F.sciB rd rs1 imm) 4 rd (BitVec.ofInt 32
    (acc + ∑ k, elemInt sx (lane (s.reg rs1) k) * elemInt sy (immElem 8 signed imm)))

/-! ### Floating point -/

/-- Is the pattern a finite number (43 R320)? -/
def isFinite (w : Word) : Bool := fExp w != 255

/-- The number that a finite pattern stands for (43 R320). -/
def fValue (w : Word) : ℚ := (if fSign w then -1 else 1) * (fMant w : ℚ) * (2 : ℚ) ^ fPow w

/-- `w` is the finite pattern that mode `rm` prefers for the number `x`, ties included (43 R323). -/
def NearestFinite (rm : Rounding) (x : ℚ) (w : Word) : Prop :=
  match rm with
  | .rne => ∀ u, isFinite u = true → |fValue w - x| ≤ |fValue u - x| ∧
      (|fValue w - x| = |fValue u - x| → fValue u ≠ fValue w → fMant w % 2 = 0)
  | .rmm => ∀ u, isFinite u = true → |fValue w - x| ≤ |fValue u - x| ∧
      (|fValue w - x| = |fValue u - x| → |fValue u| ≤ |fValue w|)
  | .rtz => |fValue w| ≤ |x| ∧ 0 ≤ fValue w * x ∧ ∀ u, isFinite u = true → |fValue u| ≤ |x| → |fValue u| ≤ |fValue w|
  | .rdn => fValue w ≤ x ∧ ∀ u, isFinite u = true → fValue u ≤ x → fValue u ≤ fValue w
  | .rup => x ≤ fValue w ∧ ∀ u, isFinite u = true → x ≤ fValue u → fValue w ≤ fValue u

/-- `r` is the number `x` ≠ 0 correctly rounded to binary32, with the flags that this raises (43 R322, R323): the sign, of zero and
infinity too, is that of `x`; a finite result is the one that the mode prefers; the result is infinite exactly where the mode
overflows to infinity; NX tells whether it is exact, OF and UF whether the range was left. -/
structure RoundsTo (rm : Rounding) (x : ℚ) (r : FpResult) : Prop where
  number : isNaN r.1 = false
  sign : fSign r.1 = decide (x < 0)
  finite : isFinite r.1 = true → NearestFinite rm x r.1
  infinite : isInf r.1 = true ↔
    match rm with
    | .rne | .rmm => (2 : ℚ) ^ 128 - 2 ^ 103 ≤ |x|
    | .rtz => False
    | .rdn => x < -((2 : ℚ) ^ 128 - 2 ^ 104)
    | .rup => (2 : ℚ) ^ 128 - 2 ^ 104 < x
  noInvalid : r.2 &&& (flagNV ||| flagDZ) = 0
  inexact : r.2 &&& flagNX ≠ 0 ↔ isFinite r.1 = false ∨ fValue r.1 ≠ x
  overflow : r.2 &&& flagOF ≠ 0 ↔ isFinite r.1 = false ∨ (2 : ℚ) ^ 128 ≤ |x|
  underflow : r.2 &&& flagUF ≠ 0 → r.2 &&& flagNX ≠ 0 ∧ |x| < (2 : ℚ) ^ (-126 : ℤ)
  tiny : r.2 &&& flagNX ≠ 0 → |x| ≤ (2 : ℚ) ^ (-126 : ℤ) - 2 ^ (-150 : ℤ) → r.2 &&& flagUF ≠ 0

/-- The F instructions may execute (43 R324). -/
def FpOn (s : State) : Prop := s.cfg.fpu = true ∧ (s.cfg.zfinx = true ∨ s.mstatus.extractLsb' 13 2 ≠ 0)

/-- The state with raised flags ORed into fflags and, where F has its own registers, FS Dirty (43 R322, 10_state R44). -/
def State.afterFp (s : State) (fl : BitVec 5) : State :=
  { s with
    fflags := s.fflags ||| fl
    mstatus := if s.cfg.zfinx then s.mstatus else s.mstatus ||| 0x6000 }

/-- Every floating-point register reads as before, but `rd` reads `v`: an integer register with ZFINX (43 R320). -/
def WritesFreg (s t : State) (rd : Reg) (v : Word) : Prop :=
  if s.cfg.zfinx then WritesReg s t rd v ∧ t.f = s.f
  else (∀ q, t.reg q = s.reg q) ∧ ∀ q : Reg, t.freg q = if q = rd then v else s.freg q

/-- Executing `i` in `s` writes the result `r` to floating-point register `rd` and raises its flags. -/
def FpGives (s : State) (i : Instr) (rd : Reg) (r : FpResult) : Prop :=
  ∃ t, exec i s = .next t ∧ WritesFreg s t rd r.1 ∧ KeepsMemory s t ∧ Completes (s.afterFp r.2) s t 4 none 0

/-- Executing `i` in `s` writes the result `r` to integer register `rd` and raises its flags. -/
def FpGivesInt (s : State) (i : Instr) (rd : Reg) (r : FpResult) : Prop :=
  CompletesWith (s.afterFp r.2) s i rd r.1 4 none 0

/-! ### Exceptions and Debug Mode -/

/-- mstatus on trap entry: MIE is 0, MPIE what MIE was, all else as before (60_exceptions R826). -/
def StatusSaved (m m' : Word) : Prop :=
  ∀ n, n < 32 → m'.getLsbD n = if n = 3 then false else if n = 7 then m.getLsbD 3 else m.getLsbD n

/-- `t` is `s` after trap entry: `epc` saved, `cause` in mcause, the pc at `target`, and nothing else changed (R826). -/
def TrapTaken (s t : State) (epc cause target : Word) : Prop :=
  StatusSaved s.mstatus t.mstatus ∧
    t = { s with mepc := epc &&& 0xFFFFFFFE, mcause := cause, mstatus := t.mstatus, pc := target, stale := [] }

/-- Executing `i` in `s` raises the exception `code`: outside Debug Mode trap entry at the base of the vector table (R826, R827), in
Debug Mode a jump to `dm_exception_addr_i` that changes nothing else (R853). -/
def Raises (s : State) (i : Instr) (code : Word) : Prop :=
  (s.debugMode = false → ∃ t, exec i s = .next t ∧ TrapTaken s t s.pc code (s.mtvec &&& 0xFFFFFF00)) ∧
  (s.debugMode = true → exec i s = .next { s with pc := s.cfg.dmExceptionAddr, stale := [] })

/-- The field of dcsr that says why Debug Mode was entered (10_state R65). -/
def debugCause (d : Word) : BitVec 3 := d.extractLsb' 6 3

/-- `t` is `s` after entering Debug Mode for reason `c`: dpc the instruction not executed, the pc at `dm_halt_addr_i`, and nothing
else changed (R850). -/
def DebugEntered (s t : State) (c : BitVec 3) : Prop :=
  debugCause t.dcsr = c ∧ (∀ n, n < 32 → ¬ (6 ≤ n ∧ n ≤ 8) → t.dcsr.getLsbD n = s.dcsr.getLsbD n) ∧
    t = { s with
      debugMode := true, debugPending := false, stepPhase := .idle, dpc := s.pc &&& 0xFFFFFFFE, dcsr := t.dcsr,
      pc := s.cfg.dmHaltAddr, stale := [] }

/-- The hart runs: parameters legal, fetch enabled, its clock on, awake or waking up. -/
def Runs (s : State) : Prop :=
  s.cfg.legal = true ∧ s.fetchEnabled = true ∧ (s.cfg.corevCluster = true → s.pulpClockEn = true) ∧
    (s.sleeping = true → s.wakes = true)

/-- No `cv.elw` waits in a way that keeps events from being looked at (60_exceptions R881, 93 U7). -/
def Attends (s : State) : Prop := s.elwWaiting ≠ none → s.cfg.elwInterruptible = true

/-- Event counter `i` + 3 of `s` does not move with time: it is not implemented, or its selector is at most one event bit and that is
no timing event (60_exceptions R872) or the counter is inhibited (R870). -/
def TimeKeepsCounter (s : State) (i : Fin 29) : Prop :=
  let sel := s.hpmEvent[i]
  s.cfg.numMhpmcounters ≤ i.val ∨
    (sel &&& (sel - 1) = 0 ∧ (sel &&& 0xF81D = 0 ∨ s.mcountinhibit.getLsbD (i.val + 3) = true))

/-- `b` is `s` when a step begins: only time has passed, in mcycle unless it is inhibited (60_exceptions R870) and in the counters of
timing events (R872), and the outputs of the last step are gone. -/
structure TimePassed (s b : State) : Prop where
  others : b = { s with
    mcycle := b.mcycle, hpmCounter := b.hpmCounter, draws := b.draws, sleeping := false, elwWaiting := none, irqAck := none }
  mcycle : s.mcountinhibit.getLsbD 0 = true → b.mcycle = s.mcycle
  hpm : ∀ i : Fin 29, TimeKeepsCounter s i → b.hpmCounter[i] = s.hpmCounter[i]

end Sys2Proof.Machine
end

