-- ==== Sys2Proof/WellFormed.lean ====
section
/-! DEFINITION. Which instructions have an encoding (spec/30_encoding.md, spec/41_rv32c.md R293).

The types of the operands hold exactly what the fields of a 32-bit encoding hold, so every 32-bit instruction is well
formed; the checks are those of the compressed encodings. -/

namespace Sys2Proof

/-- No check of the encoding forbids these operands. -/
def Instr.wellFormed : Instr → Bool
  -- R262, R271, R272: a zero immediate is reserved
  | .cAddi4spn _ imm => imm != 0
  | .cAddi16sp imm => imm != 0
  -- R271, R272: rd = x2 is c.addi16sp
  | .cLui rd imm => rd != 2 && imm != 0
  -- R268: rd = x0 is c.nop
  | .cAddi rd _ => rd != 0
  -- R284, R286: x0 is reserved
  | .cLwsp rd _ => rd != 0
  | .cJr rs1 => rs1 != 0
  -- R289: rs1 = x0 is c.ebreak
  | .cJalr rs1 => rs1 != 0
  -- R287, R290: rs2 = x0 is c.jr or c.jalr
  | .cMv _ rs2 => rs2 != 0
  | .cAdd _ rs2 => rs2 != 0
  -- every other instruction: each field admits every value of its type
  | _ => true

end Sys2Proof
end

