-- ==== Sys2Proof/Certificates/Slice0/Obligations.lean ====
section
/-! DEFINITION. The statements for the provers: what the spec's rules say of the instructions and of the machine. -/

section Statements

open Sys2Proof Sys2Proof.Machine

/-! ### Encoding -/

/-- O1. Decoding inverts encoding: every well-formed instruction, with every operand, is what the decoder reads from its words
(30_encoding R160 to R173, 41_rv32c R261) and from their bytes, the lowest-addressed first, whatever bytes follow. Two bytes
are read where bits 1:0 of the first parcel are not 11, four where they are (R160, 20_memory R134). -/
def Obligations.DecodeInvertsEncode : Prop :=
  ∀ i : Instr, i.wellFormed = true →
    decodeCode (encode i) = .ok i ∧
    (∀ rest : List Byte, decodeBytes (codeBytes (encode i) ++ rest) = .ok (i, rest)) ∧
    (∀ h, encode i = .half h → h.extractLsb' 0 2 ≠ 3 ∧ codeBytes (encode i) = [h.extractLsb' 0 8, h.extractLsb' 8 8]) ∧
    (∀ w, encode i = .full w → w.extractLsb' 0 2 = 3 ∧
      codeBytes (encode i) = [w.extractLsb' 0 8, w.extractLsb' 8 8, w.extractLsb' 16 8, w.extractLsb' 24 8])

/-- O2. Encoding inverts decoding: a word that the decoder accepts is the encoding of the well-formed instruction it reads, so no
two words mean the same instruction and no reserved word is accepted. That an Xcv word is one of these when a field printed as zeros
is not zero is the choice of the spec (30 R172, 92 D11), which the model takes (notes/assumptions/39.md). -/
def Obligations.EncodeInvertsDecode : Prop :=
  ∀ (c : Code) (i : Instr), decodeCode c = .ok i → encode i = c ∧ i.wellFormed = true

/-- O3. Words that the spec writes out decode to the instructions it writes beside them (the encodings and examples of 40 R219,
42 R303, R304, R305, R310, R307, R308, R309, R311, 41 R267, R288); the all-zero and all-ones words decode to nothing (30 R170). -/
def Obligations.SpecWordsDecode : Prop :=
  decode32 0x00000013 = .ok (.addi 0 0 0) ∧ decode32 0x3002B073 = .ok (.csrrc 0 0x300 5) ∧
  decode32 0x3402D073 = .ok (.csrrwi 0 0x340 5) ∧ decode32 0x30046073 = .ok (.csrrsi 0 0x300 8) ∧
  decode32 0x300472F3 = .ok (.csrrci 5 0x300 8) ∧ decode32 0x0000100F = .ok (.fenceI 0 0 0) ∧
  decode32 0x30200073 = .ok .mret ∧ decode32 0x7B200073 = .ok .dret ∧ decode32 0x10500073 = .ok .wfi ∧
  decode16 0x0001 = .ok (.cNop 0) ∧ decode16 0x9002 = .ok .cEbreak ∧
  (∀ i, decode32 0 ≠ .ok i) ∧ (∀ i, decode32 0xFFFFFFFF ≠ .ok i) ∧ (∀ i, decode16 0 ≠ .ok i)

/-! ### What every step keeps, and reset -/

/-- O4. Every step from a state that meets the invariant leads to one: memory in canonical form, x0 zero, the pc halfword aligned,
the fixed bits of every control and status register, loop addresses word aligned, counters that do not exist zero (10_state R69, R70,
R73), no active loop without COREV_PULP (45 R410), in Debug Mode no single step in progress (60_exceptions R855) and no sleep (R880,
R881), a debug request whose line is high outside Debug Mode latched. The last clause is the model's reading: of R851 with the
decision of the spec for dret (92 D16), and of when the latch is set (notes/assumptions/31.md). That bit 0 is the one fixed bit of
dpc is the choice of the spec (10_state R66, 92 D10; notes/assumptions/38.md). -/
def Obligations.StepKeepsInvariant : Prop :=
  ∀ s t : State, s.Inv → step s = .next t → t.Inv

/-- O5. The state after reset meets the invariant, with every allowed choice of parameters and pins. -/
def Obligations.ResetHasInvariant : Prop :=
  ∀ c : Config, c.legal = true → (State.resetWith c).Inv

/-- O6. What reset leaves, by the spec's own values: every value of the table of 10_state R110, as CSR reads see it, as fields where no
read is open right after reset. The registers and the memory that the table leaves unspecified are not named. That scontext (0x7AA)
exists is the choice of the spec (R64, 92 D9), which the model takes (notes/assumptions/37.md). -/
def Obligations.ResetRegisterValues : Prop :=
  ∀ (c : Config) (k : Fin 29),
    let s := State.resetWith c
    let n := BitVec.ofNat 12 k
    (s.pc = c.bootAddr ∧ s.reg 0 = 0 ∧ s.fetchEnabled = false ∧ s.debugMode = false ∧ s.sleeping = false ∧ s.stale = []) ∧
    (s.csrRead 0x300 = some 0x00001800 ∧ s.csrRead 0x305 = some ((c.mtvecAddr &&& 0xFFFFFF00) ||| 1) ∧
      s.csrRead 0x7A1 = some 0x28001040 ∧ s.csrRead 0x7A4 = some 4 ∧
      s.csrRead 0x301 = some (0x40001104 + (if c.fpu = true ∧ c.zfinx = false then 0x20 else 0) +
        (if c.corevPulp = true ∨ c.corevCluster = true then 0x800000 else 0))) ∧
    (∀ a ∈ [0x304#12, 0x340#12, 0x341#12, 0x342#12, 0x343#12, 0x344#12, 0x7A0#12, 0x7A2#12, 0x7A3#12, 0x7A8#12, 0x7AA#12],
      s.csrRead a = some 0) ∧
    (s.dcsr = 0x40000003 ∧ s.dpc = 0 ∧ s.dscratch0 = 0 ∧ s.dscratch1 = 0) ∧
    (s.fflags = 0 ∧ s.frm = 0 ∧ (FpOn s → ∀ a ∈ [0x001#12, 0x002#12, 0x003#12], s.csrRead a = some 0)) ∧
    (∀ i, i < 32 → s.mcountinhibit.getLsbD i = (decide (i = 0 ∨ i = 2) || decide (3 ≤ i ∧ i < 3 + c.numMhpmcounters))) ∧
    s.csrRead (0x323 + n) = some 0 ∧
    (∀ a ∈ [0xB00#12, 0xB80#12, 0xC00#12, 0xC80#12],
      s.csrRead a = some 0 ∧ s.csrRead (a + 2) = some 0 ∧ s.csrRead (a + 3 + n) = some 0) ∧
    (s.csrRead 0xF11 = some 0x602 ∧ s.csrRead 0xF12 = some 4 ∧ s.csrRead 0xF14 = some c.hartId ∧
      s.csrRead 0xF13 = some (if c.fpu = true ∨ c.corevPulp = true ∨ c.corevCluster = true then 1 else 0)) ∧
    (c.corevPulp = true →
      (∀ a ∈ [0xCC0#12, 0xCC1#12, 0xCC2#12, 0xCC4#12, 0xCC5#12, 0xCC6#12], s.csrRead a = some 0) ∧
      s.csrRead 0xCD0 = some c.hartId ∧ s.csrRead 0xCD1 = some 3 ∧ (c.fpu = false → s.csrRead 0xCD2 = some 0) ∧
      (c.fpu = true → s.csrRead 0xCD2 = if c.zfinx then some 1 else none))

/-! ### The step -/

/-- O7. A step runs the decoded instruction: when no event stands before it, no `cv.elw` waits and nothing older than memory is in the
prefetcher, the bytes at the pc decide the instruction, those of memory where the platform has any (20_memory R132, R139); the
step is its meaning in the state in which time has passed, followed by the check of the hardware-loop constraints and the end of
a single step. Time moves mcycle unless it is inhibited, and the counters of timing events that are not inhibited (60_exceptions
R870, R872, R873); every other counter with at most one selector bit stays. That a violated constraint makes the step answer
`hwLoopViolation` is how the model reads 45 R414 and 92 D13 (notes/assumptions/12.md, a choice of the model). -/
def Obligations.StepRunsDecodedInstruction : Prop :=
  ∀ (s : State) (i : Instr) (rest : List Byte),
    Runs s → s.elwWaiting = none → s.beginStep.boundary = none → s.stale = [] → s.pc.getLsbD 0 = false →
    i.wellFormed = true →
    let b := s.beginStep
    (∀ a, s.cfg.hasCode a = true → b.codeByte a = s.codeMem.byte a) ∧
    (decodeBytes [b.codeByte s.pc, b.codeByte (s.pc + 1), b.codeByte (s.pc + 2), b.codeByte (s.pc + 3)] = .ok (i, rest) →
      TimePassed s b ∧
      (∀ t, exec i b = .next t → loopViolation i b t = false → step s = .next (b.afterStep t)) ∧
      (∀ t, exec i b = .next t → loopViolation i b t = true → step s = .refused .hwLoopViolation) ∧
      (∀ r, exec i b = .refused r → step s = .refused r))

/-- O8. After a step that began with a single step in progress, the single step is due, unless Debug Mode was entered or a
`cv.elw` still waits; any other step leaves that alone (60_exceptions R855). That a `cv.elw` which still waits leaves the single step
armed is the model's choice (notes/assumptions/16.md, and notes/assumptions/18.md for what a step is). -/
def Obligations.SingleStepBecomesDue : Prop :=
  ∀ s t : State,
    (s.stepPhase = .armed → t.debugMode = false → t.elwWaiting = none → s.afterStep t = { t with stepPhase := .due }) ∧
    (s.stepPhase ≠ .armed ∨ t.debugMode = true ∨ t.elwWaiting ≠ none → s.afterStep t = t)

/-- O9. A word that matches no encoding is illegal (60_exceptions R822): in a step outside Debug Mode it raises exception 2, and a single
step is then due (R855); in Debug Mode it jumps to `dm_exception_addr_i` and changes nothing else (R853). Where it violates a constraint of
the hardware loops (45 R414; O53), a 16-bit parcel in a body or a jump that arrives in one, the step answers `hwLoopViolation`
(notes/assumptions/12.md and 30.md, choices of the model). -/
def Obligations.UndecodableWordTraps : Prop :=
  ∀ (s : State) (e : DecodeError),
    Runs s → s.elwWaiting = none → s.beginStep.boundary = none → s.stale = [] → s.pc.getLsbD 0 = false →
    let b := s.beginStep
    let trapped := fun t : State => TrapTaken b t s.pc 2 (s.mtvec &&& 0xFFFFFF00)
    let byte := fun k : Word => b.codeByte (s.pc + k)
    let violates := undecodableViolation (byte 3 ++ byte 2 ++ byte 1 ++ byte 0) b (b.raise 2)
    decodeBytes [byte 0, byte 1, byte 2, byte 3] = .error e →
    (violates = false →
      (s.debugMode = false → s.stepPhase = .idle → ∃ t, step s = .next t ∧ trapped t) ∧
      (s.debugMode = false → s.stepPhase = .armed → ∃ t, step s = .next { t with stepPhase := .due } ∧ trapped t) ∧
      (s.debugMode = true → step s = .next { b with pc := s.cfg.dmExceptionAddr, stale := [] })) ∧
    (violates = true → step s = .refused .hwLoopViolation)

/-- O10. The interrupt that is taken (60_exceptions R829): `select(m)`. -/
def Obligations.InterruptPriority : Prop :=
  ∀ m : Word, ∀ id : BitVec 5, selectInterrupt m = some id ↔
    m.getLsbD id.toNat = true ∧
      ((16 ≤ id.toNat ∧ ∀ n, id.toNat < n → n < 32 → m.getLsbD n = false) ∨
       (id = 11 ∧ ∀ n, 16 ≤ n → n < 32 → m.getLsbD n = false) ∨
       (id = 3 ∧ (∀ n, 16 ≤ n → n < 32 → m.getLsbD n = false) ∧ m.getLsbD 11 = false) ∨
       (id = 7 ∧ (∀ n, 16 ≤ n → n < 32 → m.getLsbD n = false) ∧ m.getLsbD 11 = false ∧ m.getLsbD 3 = false))

/-- O11. An interrupt that is pending and enabled is taken before the instruction at the pc (60_exceptions R831, R826, R827), and
acknowledged with its number (R833); in a single step too when `dcsr.stepie` is 1 (R856), and the single step then goes on, since
taking it changes nothing else. That it goes before a trigger on that address is this spec's choice (R819, 92 D16), which the
model takes (notes/assumptions/18.md). -/
def Obligations.InterruptIsTaken : Prop :=
  ∀ (s : State) (id : BitVec 5),
    Runs s → Attends s → s.debugMode = false → s.debugReq = false → s.debugPending = false →
    s.stepPhase = .idle ∨ (s.stepPhase = .armed ∧ s.dcsr.getLsbD 11 = true) →
    s.mstatus.getLsbD 3 = true → selectInterrupt (s.irq &&& 0xFFFF0888 &&& s.mie) = some id →
    ∃ t, step s = .next t ∧
      TrapTaken { s.beginStep with irqAck := some id } t s.pc (0x80000000 ||| BitVec.ofNat 32 id.toNat)
        ((s.mtvec &&& 0xFFFFFF00) + (if s.mtvec.getLsbD 0 then BitVec.ofNat 32 (4 * id.toNat) else 0))

/-- O12. Where no interrupt may be taken (60_exceptions R831, R856): in Debug Mode, with MIE = 0, with nothing pending and enabled,
and in a single step without `stepie`. -/
def Obligations.InterruptIsMasked : Prop :=
  ∀ s : State,
    s.debugMode = true ∨ s.mstatus.getLsbD 3 = false ∨ s.irq &&& 0xFFFF0888 &&& s.mie = 0 ∨
      (s.stepPhase = .armed ∧ s.dcsr.getLsbD 11 = false) →
    s.interruptToTake = none

/-- O13. A debug request outside Debug Mode is served before the instruction at the pc (60_exceptions R851, R850). That it goes before a
due single step, an interrupt and a trigger too is this spec's choice (R819, 92 D16), which the model takes
(notes/assumptions/18.md). -/
def Obligations.DebugRequestIsServed : Prop :=
  ∀ s : State, Runs s → Attends s → s.debugMode = false → s.debugReq = true ∨ s.debugPending = true →
    ∃ t, step s = .next t ∧ DebugEntered s.beginStep t 3

/-- O14. A single step that is due enters Debug Mode with cause 4 (60_exceptions R855, R850). That it goes before an interrupt and a
trigger is this spec's choice (R819 line 2, 92 D16), which the model takes (notes/assumptions/18.md). -/
def Obligations.SingleStepEntersDebug : Prop :=
  ∀ s : State, Runs s → Attends s → s.debugMode = false → s.debugReq = false → s.debugPending = false → s.stepPhase = .due →
    ∃ t, step s = .next t ∧ DebugEntered s.beginStep t 4

/-- O15. A trigger on the address at the pc enters Debug Mode with cause 2, the instruction not executed, when no interrupt is to be
taken (O12; 60_exceptions R852, R819 line 4; which of the two goes first is this model's reading, notes/assumptions/18.md). -/
def Obligations.TriggerEntersDebug : Prop :=
  ∀ s : State, Runs s → Attends s → s.debugMode = false → s.debugReq = false → s.debugPending = false → s.stepPhase ≠ .due →
    s.interruptToTake = none → s.tdata1.getLsbD 2 = true → s.pc = s.tdata2 →
    ∃ t, step s = .next t ∧ DebugEntered s.beginStep t 2

/-- O16. Asleep: without a wake-up condition nothing changes (60_exceptions R880), whatever the clock; a locally enabled interrupt, a
debug request or Debug Mode wakes, whatever mstatus.MIE says. -/
def Obligations.SleepUntilWoken : Prop :=
  ∀ s : State, s.cfg.legal = true → s.fetchEnabled = true → s.sleeping = true → s.elwWaiting = none →
    (s.irq &&& 0xFFFF0888 &&& s.mie = 0 → s.debugReq = false → s.debugPending = false → s.debugMode = false →
      step s = .next s) ∧
    (s.irq &&& 0xFFFF0888 &&& s.mie ≠ 0 ∨ s.debugReq = true ∨ s.debugPending = true ∨ s.debugMode = true →
      s.wakes = true)

/-- O17. Before `fetch_enable_i` is first 1 no instruction is fetched (10_state R108): a step only looks at the line. A debug request
that is pending when it is sampled takes the hart straight into Debug Mode, out of its unavailable state into its halted one
(10_state R105, 70 R900). Once fetching is enabled, no step disables it (R108). That sampling the line is a step of its own is the
model's choice (notes/assumptions/6.md, notes/assumptions/7.md). So is the last clause, that a debug request whose line is high when
reset is released stays pending even if the line falls: it is how the model reads 60_exceptions R851 (notes/assumptions/31.md). -/
def Obligations.WaitsForFetchEnable : Prop :=
  ∀ s : State,
    let e : State := { s with fetchEnabled := true }
    (s.cfg.legal = true →
      (s.fetchEnabled = false → s.fetchEnablePin = false → step s = .next s) ∧
      (s.fetchEnabled = false → s.fetchEnablePin = true → s.debugReq = false → s.debugPending = false → step s = .next e) ∧
      (s.fetchEnabled = true → ∀ t, step s = .next t → t.fetchEnabled = true)) ∧
    (s.fetchEnabled = false → s.fetchEnablePin = true → s.debugReq = true ∨ s.debugPending = true → s.debugMode = false →
      Runs e → Attends s →
      ∃ t, step s = .next t ∧ DebugEntered e.beginStep t 3 ∧ s.debugStatus = (true, false, false) ∧
        t.debugStatus = (false, false, true)) ∧
    (s.debugReq = true → (s.assertReset.driveDebugReq false).debugPending = true)

/-- O18. Where the model refuses: parameters that break a must of the manual, and a clock gated while awake; both are obligations of
the integration (93 U14, U25; notes/assumptions/14.md, a choice of the model). -/
def Obligations.BrokenIntegrationIsRefused : Prop :=
  ∀ s : State,
    (s.cfg.legal = false → step s = .refused .illegalConfiguration) ∧
    (s.cfg.legal = true → s.fetchEnabled = true → s.cfg.corevCluster = true → s.pulpClockEn = false → s.sleeping = false →
      step s = .refused .clockGatedAwake) ∧
    (s.cfg.legal = true → s.fetchEnabled = true → s.cfg.corevCluster = true → s.pulpClockEn = false → s.sleeping = true →
      step s = .next s)

/-- O19. A word fetched is the one that the bus gives, or one that it gave before a store that the prefetcher may not have seen
(20_memory R151; which ones are kept is the model's choice, notes/assumptions/11.md); with nothing older kept it is the one that the
bus gives, which where the platform has memory is the one in memory (R132; elsewhere it is free, notes/assumptions/4.md). -/
def Obligations.FetchGivesOldOrNewWord : Prop :=
  ∀ (s : State) (a : Word),
    (s.fetchWord a = s.codeWord a ∨ (a, s.fetchWord a) ∈ s.stale) ∧
    ((∀ w, (a, w) ∉ s.stale) → s.fetchWord a = s.codeWord a) ∧
    ((∀ k < 4, s.cfg.hasCode (a + BitVec.ofNat 32 k) = true) → s.codeWord a = s.codeMem.word a)

/-! ### Exceptions, and returning from them -/

/-- O20. Exceptions of instructions: `ecall` raises 11; `ebreak` and `c.ebreak` raise 3 unless `dcsr.ebreakm` sends them to Debug Mode
with cause 1, and in Debug Mode go back to `dm_halt_addr_i` and change nothing else (60_exceptions R824, R823, R854). -/
def Obligations.CallsAndBreakpoints : Prop :=
  ∀ s : State,
    Raises s .ecall 11 ∧
    ∀ i : Instr, i = .ebreak ∨ i = .cEbreak →
      (s.debugMode = false → s.dcsr.getLsbD 15 = false →
        ∃ t, exec i s = .next t ∧ TrapTaken s t s.pc 3 (s.mtvec &&& 0xFFFFFF00)) ∧
      (s.debugMode = false → s.dcsr.getLsbD 15 = true → ∃ t, exec i s = .next t ∧ DebugEntered s t 1) ∧
      (s.debugMode = true → exec i s = .next { s with pc := s.cfg.dmHaltAddr, stale := [] })

/-- O21. `mret` outside Debug Mode: pc from mepc, MIE from MPIE (60_exceptions R834), and MPIE 1; in Debug Mode a jump to
`dm_exception_addr_i` that changes no status register (R853). That MPIE becomes 1 is the choice of the spec (42 R308, 92 D12), which
the model takes (notes/assumptions/34.md): the source says nothing of MPIE after `mret`. -/
def Obligations.MretReturns : Prop :=
  ∀ s : State,
    (s.debugMode = false → ∃ m : Word,
      (∀ n, n < 32 → m.getLsbD n = if n = 3 then s.mstatus.getLsbD 7 else if n = 7 then true else s.mstatus.getLsbD n) ∧
      CompletesWith { s with mstatus := m } s .mret 0 0 4 (some s.mepc) 0) ∧
    (s.debugMode = true → exec .mret s = .next { s with pc := s.cfg.dmExceptionAddr, stale := [] })

/-- O22. `dret`: in Debug Mode pc from dpc, Debug Mode left, and a single step begun when `dcsr.step` is 1 (60_exceptions R855). Outside
Debug Mode it is illegal (R822). That a debug request whose line is still high at dret is latched again is a choice: of the spec (the
decision of R851, 92 D16), and of the model for the latch itself (notes/assumptions/31.md). -/
def Obligations.DretResumes : Prop :=
  ∀ s : State,
    (s.debugMode = true →
      CompletesWith { s with
        debugMode := false, debugPending := s.debugReq, stepPhase := if s.dcsr.getLsbD 2 then .armed else .idle } s .dret 0 0 4
        (some s.dpc) 0) ∧
    (s.debugMode = false → ∃ t, exec .dret s = .next t ∧ TrapTaken s t s.pc 2 (s.mtvec &&& 0xFFFFFF00))

/-- O23. Xcv instructions are illegal where they do not exist (44 R370, 45 R410, 46 R440, 47 R510, 48 R540): every instruction whose word
lies in one of the four custom opcodes, but `cv.elw`, without COREV_PULP; `cv.elw` without COREV_CLUSTER (R400). -/
def Obligations.XcvIllegalWhenAbsent : Prop :=
  ∀ (s : State) (i : Instr),
    (s.cfg.corevPulp = false →
      (∃ w, encode i = .full w ∧ w.extractLsb' 0 7 ∈ [0x0B#7, 0x2B#7, 0x5B#7, 0x7B#7]) →
      (∀ rd rs1 imm, i ≠ .cvElw rd rs1 imm) → Raises s i 2) ∧
    (s.cfg.corevCluster = false → ∀ rd rs1 imm, Raises s (.cvElw rd rs1 imm) 2)

/-- O24. Floating-point instructions are illegal without FPU and, where F has its own registers, with mstatus.FS Off (43 R324), with a
reserved rounding mode (R323), and the loads, stores and moves also with ZFINX (R351). -/
def Obligations.FloatIllegalWhenOff : Prop :=
  ∀ (s : State) (i : Instr),
    (¬ FpOn s →
      (∃ w, encode i = .full w ∧ w.extractLsb' 0 7 ∈ [0x07#7, 0x27#7, 0x43#7, 0x47#7, 0x4B#7, 0x4F#7, 0x53#7]) ∨
        (∃ a b c, i = .cFlw a b c ∨ i = .cFsw a b c) ∨ (∃ r u, i = .cFlwsp r u ∨ i = .cFswsp r u) → Raises s i 2) ∧
    (s.cfg.zfinx = true →
      (∃ a b c, i = .flw a b c ∨ i = .fsw a b c) ∨ (∃ a b c, i = .cFlw a b c ∨ i = .cFsw a b c) ∨
        (∃ r u, i = .cFlwsp r u ∨ i = .cFswsp r u) ∨ (∃ a b, i = .fmvXW a b ∨ i = .fmvWX a b) → Raises s i 2) ∧
    (∀ rm : BitVec 3, (if rm = 7 then s.frm else rm) ∈ [5#3, 6#3, 7#3] →
      (∃ a b c d, i ∈ [.fmaddS a b c d rm, .fmsubS a b c d rm, .fnmsubS a b c d rm, .fnmaddS a b c d rm]) ∨
        (∃ a b c, i ∈ [.faddS a b c rm, .fsubS a b c rm, .fmulS a b c rm, .fdivS a b c rm]) ∨
        (∃ a b, i ∈ [.fsqrtS a b rm, .fcvtWS a b rm, .fcvtWuS a b rm, .fcvtSW a b rm, .fcvtSWu a b rm]) → Raises s i 2)

/-! ### Control and status registers, fences, sleep -/

/-- O25. The six CSR instructions (42 R300 to R305, R310): `rd` receives the old value. A set or clear that names x0 or a zero immediate
writes nothing, whatever the CSR. Every other form, on a CSR that is not read-only, writes the operand, or the old value with the
operand's bits set, or cleared; the stored bits are those of `csrWrite` (O26, O29 to O32), and where that is undefined (mcause, 93 U3)
the instruction stops as the write does (notes/assumptions/13.md, a choice of the model). An instruction that writes a counter does
not count in it, as if it were inhibited (92 D17). -/
def Obligations.CsrInstructionsReadAndWrite : Prop :=
  ∀ (s : State) (rd rs1 : Reg) (u : BitVec 5) (a : BitVec 12) (old : Word), s.csrRead a = some old →
    let counter := a.extractLsb' 5 7 = 0x58 ∨ a.extractLsb' 5 7 = 0x5C
    let s' : State :=
      if counter then { s with mcountinhibit := s.mcountinhibit ||| 1#32 <<< (a.extractLsb' 0 5).toNat } else s
    (∀ i : Instr, i ∈ [.csrrs rd a 0, .csrrc rd a 0, .csrrsi rd a 0, .csrrci rd a 0] → Gives s i 4 rd old) ∧
    (a.extractLsb' 10 2 ≠ 3 → a ≠ 0x7A4 → ∀ (i : Instr) (v : Word),
      (i, v) ∈ [(.csrrw rd a rs1, s.reg rs1), (.csrrwi rd a u, u.setWidth 32)] ∨
      (rs1 ≠ 0 ∧ (i, v) ∈ [(.csrrs rd a rs1, old ||| s.reg rs1), (.csrrc rd a rs1, old &&& ~~~ s.reg rs1)]) ∨
      (u ≠ 0 ∧ (i, v) ∈ [(.csrrsi rd a u, old ||| u.setWidth 32), (.csrrci rd a u, old &&& ~~~ (u.setWidth 32))]) →
      (a ≠ 0x342 → ∃ e, s.csrWrite a v = .next e) ∧
      (∀ e, s.csrWrite a v = .next e → ∃ t, exec i s = .next t ∧ WritesReg s t rd old ∧ t.f = s.f ∧ KeepsMemory s t ∧
        Completes e s' t 4 none 0) ∧
      (∀ r, s.csrWrite a v = .refused r → exec i s = .refused r))

/-- O26. What a CSR write stores (10_state R39, R48, R51 to R54, R65 to R67, R69, R70): the writable bits of the value, the other bits as
they are; and nothing else in the state changes. An event selector keeps 16 bits where its counter is implemented, else nothing. Two
clauses are choices of the spec, which the model takes: dpc keeps bits 31:1 (R66, 92 D10; notes/assumptions/38.md), and scontext (0x7AA)
ignores writes (R64, 92 D9; notes/assumptions/37.md). -/
def Obligations.CsrWritesStoreWritableBits : Prop :=
  ∀ (s : State) (v : Word),
    (s.CsrInv →
      ∃ m, s.csrWrite 0x300 v = .next { s with mstatus := m } ∧
        ∀ n, n < 32 → m.getLsbD n =
          if n = 3 ∨ n = 7 ∨ ((n = 13 ∨ n = 14) ∧ s.cfg.fpu = true ∧ s.cfg.zfinx = false) then v.getLsbD n
          else s.mstatus.getLsbD n) ∧
    s.csrWrite 0x304 v = .next { s with mie := v &&& 0xFFFF0888 } ∧
    s.csrWrite 0x305 v = .next { s with mtvec := v &&& 0xFFFFFF01 } ∧
    s.csrWrite 0x340 v = .next { s with mscratch := v } ∧
    s.csrWrite 0x341 v = .next { s with mepc := v &&& 0xFFFFFFFE } ∧
    (∃ d, s.csrWrite 0x7B0 v = .next { s with dcsr := d } ∧
      ∀ n, n < 32 → d.getLsbD n = if n = 2 ∨ n = 11 ∨ n = 15 then v.getLsbD n else s.dcsr.getLsbD n) ∧
    s.csrWrite 0x7B1 v = .next { s with dpc := v &&& 0xFFFFFFFE } ∧
    s.csrWrite 0x7B2 v = .next { s with dscratch0 := v } ∧
    s.csrWrite 0x7B3 v = .next { s with dscratch1 := v } ∧
    (∃ m, s.csrWrite 0x320 v = .next { s with mcountinhibit := m } ∧
      ∀ n, n < 32 → m.getLsbD n =
        (v.getLsbD n && (decide (n = 0 ∨ n = 2) || decide (3 ≤ n ∧ n < 3 + s.cfg.numMhpmcounters)))) ∧
    (∀ k : Fin 29, s.csrWrite (0x323 + BitVec.ofNat 12 k) v =
      .next (if k.val < s.cfg.numMhpmcounters then { s with hpmEvent := s.hpmEvent.set k (v.setWidth 16) } else s)) ∧
    ∀ a ∈ [0x301#12, 0x343#12, 0x344#12, 0x7A0#12, 0x7A3#12, 0x7A8#12, 0x7AA#12], s.csrWrite a v = .next s

/-- O27. What CSR reads give (10_state R40, R43, R48 to R64, R69 to R74, R77, R96 to R102): constants, views of other registers, and the
stored registers, each only where it is implemented and accessible. Every address outside the map of R40 is not implemented. That privlv (0xCD1) reads
3 in Debug Mode too is the model's reading (notes/assumptions/27.md): R101 assumes it, since the source does not say. That scontext
(0x7AA) exists and reads 0 is the choice of the spec (R64, 92 D9), which the model takes (notes/assumptions/37.md). -/
def Obligations.CsrReadsGiveSpecValues : Prop :=
  ∀ (s : State) (k : Fin 29),
    let n := BitVec.ofNat 12 k
    let low := fun c : BitVec 64 => some (c.extractLsb' 0 32)
    let high := fun c : BitVec 64 => some (c.extractLsb' 32 32)
    (s.csrRead 0x344 = some (s.irq &&& 0xFFFF0888) ∧ s.csrRead 0x304 = some s.mie ∧ s.csrRead 0x305 = some s.mtvec ∧
      s.csrRead 0x340 = some s.mscratch ∧ s.csrRead 0x341 = some s.mepc ∧ s.csrRead 0x342 = some s.mcause ∧
      s.csrRead 0x343 = some 0 ∧
      s.csrRead 0x300 = some (if s.mstatus.extractLsb' 13 2 = 3 then s.mstatus ||| 0x80000000 else s.mstatus)) ∧
    (s.csrRead 0x7A0 = some 0 ∧ s.csrRead 0x7A1 = some s.tdata1 ∧ s.csrRead 0x7A2 = some s.tdata2 ∧ s.csrRead 0x7A3 = some 0 ∧
      s.csrRead 0x7A4 = some 4 ∧ s.csrRead 0x7A8 = some 0 ∧ s.csrRead 0x7AA = some 0) ∧
    (s.csrRead 0xF11 = some 0x602 ∧ s.csrRead 0xF12 = some 4 ∧ s.csrRead 0xF14 = some s.cfg.hartId ∧
      s.csrRead 0xF13 =
        some (if s.cfg.fpu = true ∨ s.cfg.corevPulp = true ∨ s.cfg.corevCluster = true then 1 else 0) ∧
      s.csrRead 0x301 = some (0x40001104 + (if s.cfg.fpu = true ∧ s.cfg.zfinx = false then 0x20 else 0) +
        (if s.cfg.corevPulp = true ∨ s.cfg.corevCluster = true then 0x800000 else 0))) ∧
    (s.csrRead 0x320 = some s.mcountinhibit ∧ s.csrRead (0x323 + n) = some (s.hpmEvent[k].setWidth 32) ∧
      (∀ a ∈ [0xB00#12, 0xC00#12], s.csrRead a = low s.mcycle ∧ s.csrRead (a + 0x80) = high s.mcycle) ∧
      (∀ a ∈ [0xB02#12, 0xC02#12], s.csrRead a = low s.minstret ∧ s.csrRead (a + 0x80) = high s.minstret) ∧
      (∀ a ∈ [0xB03#12, 0xC03#12],
        s.csrRead (a + n) = low s.hpmCounter[k] ∧ s.csrRead (a + 0x80 + n) = high s.hpmCounter[k])) ∧
    (FpOn s → s.csrRead 0x003 = some ((s.frm ++ s.fflags).setWidth 32) ∧ s.csrRead 0x001 = some (s.fflags.setWidth 32) ∧
      s.csrRead 0x002 = some (s.frm.setWidth 32)) ∧
    (¬ FpOn s → ∀ a ∈ [0x001#12, 0x002#12, 0x003#12], s.csrRead a = none) ∧
    (s.debugMode = false → ∀ a ∈ [0x7B0#12, 0x7B1#12, 0x7B2#12, 0x7B3#12], s.csrRead a = none) ∧
    (s.debugMode = true → s.csrRead 0x7B0 = some s.dcsr ∧ s.csrRead 0x7B1 = some s.dpc ∧ s.csrRead 0x7B2 = some s.dscratch0 ∧
      s.csrRead 0x7B3 = some s.dscratch1) ∧
    (s.cfg.corevPulp = true → s.csrRead 0xCC0 = some s.loop0.start ∧ s.csrRead 0xCC1 = some s.loop0.stop ∧
      s.csrRead 0xCC2 = some s.loop0.count ∧ s.csrRead 0xCC4 = some s.loop1.start ∧ s.csrRead 0xCC5 = some s.loop1.stop ∧
      s.csrRead 0xCC6 = some s.loop1.count ∧ s.csrRead 0xCD0 = some s.cfg.hartId ∧ s.csrRead 0xCD1 = some 3 ∧
      (s.cfg.fpu = false → s.csrRead 0xCD2 = some 0) ∧
      (s.cfg.fpu = true → s.csrRead 0xCD2 = if s.cfg.zfinx then some 1 else none)) ∧
    (s.cfg.corevPulp = false →
      ∀ a ∈ [0xCC0#12, 0xCC1#12, 0xCC2#12, 0xCC4#12, 0xCC5#12, 0xCC6#12, 0xCD0#12, 0xCD1#12, 0xCD2#12], s.csrRead a = none) ∧
    (∀ a : BitVec 12,
      (∀ r ∈ [(0x001, 0x003), (0x300, 0x301), (0x304, 0x305), (0x320, 0x320), (0x323, 0x33F), (0x340, 0x344), (0x7A0, 0x7A4),
        (0x7A8, 0x7A8), (0x7AA, 0x7AA), (0x7B0, 0x7B3), (0xB00, 0xB00), (0xB02, 0xB1F), (0xB80, 0xB80), (0xB82, 0xB9F),
        (0xC00, 0xC00), (0xC02, 0xC1F), (0xC80, 0xC80), (0xC82, 0xC9F), (0xCC0, 0xCC2), (0xCC4, 0xCC6), (0xCD0, 0xCD2),
        (0xF11, 0xF14)], a.toNat < r.1 ∨ r.2 < a.toNat) →
      s.csrRead a = none)

/-- O28. An access that the checks refuse raises the illegal-instruction exception and has no other effect (10_state R38): a CSR that is
not implemented or not accessible, or a form that writes to a read-only one; tinfo is one, by its own rule (R62), though its number
is not among the read-only ones (notes/assumptions/32.md). -/
def Obligations.CsrAccessChecked : Prop :=
  ∀ (s : State) (rd rs1 : Reg) (u : BitVec 5) (a : BitVec 12),
    (s.csrRead a = none → ∀ i ∈ [.csrrw rd a rs1, .csrrs rd a rs1, .csrrc rd a rs1, .csrrwi rd a u, .csrrsi rd a u, .csrrci rd a u],
      Raises s i 2) ∧
    (a.extractLsb' 10 2 = 3 ∨ a = 0x7A4 → ∀ i : Instr, i ∈ [.csrrw rd a rs1, .csrrwi rd a u] ∨
      (rs1 ≠ 0 ∧ i ∈ [.csrrs rd a rs1, .csrrc rd a rs1]) ∨ (u ≠ 0 ∧ i ∈ [.csrrsi rd a u, .csrrci rd a u]) → Raises s i 2)

/-- O29. Writes to the floating-point CSRs (10_state R41 to R44), by whatever form (O25): the fields of the value, and FS Dirty where
there is an FS. -/
def Obligations.FloatCsrWrites : Prop :=
  ∀ (s : State) (rd rs1 : Reg), FpOn s →
    let d := if s.cfg.zfinx then s.mstatus else s.mstatus ||| 0x6000
    let v := s.reg rs1
    (∀ w : Word,
      s.csrWrite 0x001 w = .next { s with fflags := w.extractLsb' 0 5, mstatus := d } ∧
      s.csrWrite 0x002 w = .next { s with frm := w.extractLsb' 0 3, mstatus := d } ∧
      s.csrWrite 0x003 w = .next { s with fflags := w.extractLsb' 0 5, frm := w.extractLsb' 5 3, mstatus := d }) ∧
    CompletesWith { s with fflags := v.extractLsb' 0 5, mstatus := d } s (.csrrw rd 0x001 rs1) rd (s.fflags.setWidth 32) 4
      none 0 ∧
    CompletesWith { s with frm := v.extractLsb' 0 3, mstatus := d } s (.csrrw rd 0x002 rs1) rd (s.frm.setWidth 32) 4 none 0 ∧
    CompletesWith { s with fflags := v.extractLsb' 0 5, frm := v.extractLsb' 5 3, mstatus := d } s (.csrrw rd 0x003 rs1) rd
      ((s.frm ++ s.fflags).setWidth 32) 4 none 0

/-- O30. Writes to the counters (10_state R71 to R73), by whatever form: one half of the 64-bit counter takes the value, the other half
stays, and nothing else changes; a counter that is not implemented ignores it. That the writing instruction does not count in the
counter it writes is the spec's decision D17. -/
def Obligations.CounterWrites : Prop :=
  ∀ (s : State) (rd rs1 : Reg) (k : Fin 29),
    let low := fun (c : BitVec 64) (w : Word) => c.extractLsb' 32 32 ++ w
    let high := fun (c : BitVec 64) (w : Word) => w ++ c.extractLsb' 0 32
    let n := BitVec.ofNat 12 k
    let impl := k.val < s.cfg.numMhpmcounters
    let v := s.reg rs1
    (∀ w : Word,
      s.csrWrite 0xB00 w = .next { s with mcycle := low s.mcycle w } ∧
      s.csrWrite 0xB80 w = .next { s with mcycle := high s.mcycle w } ∧
      s.csrWrite 0xB02 w = .next { s with minstret := low s.minstret w } ∧
      s.csrWrite 0xB82 w = .next { s with minstret := high s.minstret w } ∧
      s.csrWrite (0xB03 + n) w =
        .next (if impl then { s with hpmCounter := s.hpmCounter.set k (low s.hpmCounter[k] w) } else s) ∧
      s.csrWrite (0xB83 + n) w =
        .next (if impl then { s with hpmCounter := s.hpmCounter.set k (high s.hpmCounter[k] w) } else s)) ∧
    ∃ t0 t1 t2 t3 t4 t5,
      exec (.csrrw rd 0xB00 rs1) s = .next t0 ∧ t0.mcycle = s.mcycle.extractLsb' 32 32 ++ v ∧
      exec (.csrrw rd 0xB80 rs1) s = .next t1 ∧ t1.mcycle = v ++ s.mcycle.extractLsb' 0 32 ∧
      exec (.csrrw rd 0xB02 rs1) s = .next t2 ∧ t2.minstret = s.minstret.extractLsb' 32 32 ++ v ∧
      exec (.csrrw rd 0xB82 rs1) s = .next t3 ∧ t3.minstret = v ++ s.minstret.extractLsb' 0 32 ∧
      exec (.csrrw rd (0xB03 + BitVec.ofNat 12 k) rs1) s = .next t4 ∧
      exec (.csrrw rd (0xB83 + BitVec.ofNat 12 k) rs1) s = .next t5 ∧
      (k.val < s.cfg.numMhpmcounters → t4.hpmCounter[k] = s.hpmCounter[k].extractLsb' 32 32 ++ v ∧
        t5.hpmCounter[k] = v ++ s.hpmCounter[k].extractLsb' 0 32) ∧
      (s.cfg.numMhpmcounters ≤ k.val → t4.hpmCounter[k] = s.hpmCounter[k] ∧ t5.hpmCounter[k] = s.hpmCounter[k])

/-- O31. A write to mcause, by whatever form, stores the interrupt bit and the code when the pair is one the hart has; any other pair is
undefined behaviour by the spec (10_state R55, 93 U3), and the model stops by name (notes/assumptions/13.md). -/
def Obligations.McauseWrites : Prop :=
  ∀ (s : State) (rd rs1 : Reg) (u : BitVec 5) (i : Instr) (v : Word),
    (i, v) ∈ [(.csrrw rd 0x342 rs1, s.reg rs1), (.csrrwi rd 0x342 u, u.setWidth 32)] ∨
    (rs1 ≠ 0 ∧ (i, v) ∈ [(.csrrs rd 0x342 rs1, s.mcause ||| s.reg rs1), (.csrrc rd 0x342 rs1, s.mcause &&& ~~~ s.reg rs1)]) ∨
    (u ≠ 0 ∧
      (i, v) ∈ [(.csrrsi rd 0x342 u, s.mcause ||| u.setWidth 32), (.csrrci rd 0x342 u, s.mcause &&& ~~~ (u.setWidth 32))]) →
    let legal := if v.getLsbD 31 then v.extractLsb' 0 5 ∈ [3#5, 7#5, 11#5] ∨ v.getLsbD 4 = true
      else v.extractLsb' 0 5 ∈ [0#5, 2#5, 3#5, 11#5]
    (legal → CompletesWith { s with mcause := v &&& 0x8000001F } s i rd s.mcause 4 none 0) ∧
    (¬ legal → exec i s = .refused .mcauseUndefined)

/-- O32. The trigger registers can be written in Debug Mode alone (10_state R59, R60), by whatever form (O25): elsewhere a write is
ignored. -/
def Obligations.TriggerRegistersAreDebugOnly : Prop :=
  ∀ (s : State) (rd rs1 : Reg),
    let v := s.reg rs1
    (∀ w : Word,
      (s.debugMode = false → s.csrWrite 0x7A1 w = .next s ∧ s.csrWrite 0x7A2 w = .next s) ∧
      (s.debugMode = true → s.csrWrite 0x7A1 w = .next { s with tdata1 := 0x28001040 ||| (w &&& 4) } ∧
        s.csrWrite 0x7A2 w = .next { s with tdata2 := w })) ∧
    (s.debugMode = false → Gives s (.csrrw rd 0x7A1 rs1) 4 rd s.tdata1 ∧ Gives s (.csrrw rd 0x7A2 rs1) 4 rd s.tdata2) ∧
    (s.debugMode = true →
      CompletesWith { s with tdata1 := 0x28001040 ||| (v &&& 4) } s (.csrrw rd 0x7A1 rs1) rd s.tdata1 4 none 0 ∧
      CompletesWith { s with tdata2 := v } s (.csrrw rd 0x7A2 rs1) rd s.tdata2 4 none 0)

/-- O33. `fence` and `fence.i` go on to the next instruction, change nothing else and leave nothing in the prefetcher that a store could
have made old. For `fence.i` that is 42 R307; for `fence` it is this spec's choice (R306, 92 D4), which the model takes
(notes/assumptions/28.md). -/
def Obligations.FencesOnlyFlush : Prop :=
  ∀ (s : State) (imm : BitVec 12) (rs1 rd : Reg) (i : Instr), i = .fence imm rs1 rd ∨ i = .fenceI imm rs1 rd →
    CompletesWith s s i 0 0 4 none 0 ∧ ∀ t, exec i s = .next t → t.stale = []

/-- O34. `wfi` (42 R311, 60_exceptions R880): the hart sleeps after it, unless a debug request, Debug Mode, a single step, a trigger match,
COREV_CLUSTER or an interrupt pending and enabled in mie makes it a nop. For the trigger match the model takes this instruction's
address and the next (notes/assumptions/17.md, a reading of the model); a trigger on another address lets the hart sleep. -/
def Obligations.WfiSleepsOrIsNop : Prop :=
  ∀ s : State,
    let matched := s.tdata1.getLsbD 2 = true ∧ (s.tdata2 = s.pc ∨ s.tdata2 = s.pc + 4)
    (s.debugReq = true ∨ s.debugPending = true ∨ s.debugMode = true ∨ s.stepPhase = .armed ∨ s.cfg.corevCluster = true ∨
      s.irq &&& 0xFFFF0888 &&& s.mie ≠ 0 ∨ matched → CompletesWith s s .wfi 0 0 4 none 0) ∧
    (s.debugReq = false → s.debugPending = false → s.debugMode = false → s.stepPhase ≠ .armed → s.cfg.corevCluster = false →
      s.irq &&& 0xFFFF0888 &&& s.mie = 0 → ¬ matched →
      CompletesWith { s with sleeping := true } s .wfi 0 0 4 none 0)

/-! ### Integer instructions -/

/-- O35. Integer instructions with an immediate (40 R201, R202, R219 to R227): `rd` receives the value, computed in the integers and
reduced modulo 2^32; nothing else changes. -/
def Obligations.IntegerImmediate : Prop :=
  ∀ (s : State) (rd rs1 : Reg) (u : BitVec 20) (imm : BitVec 12) (sh : BitVec 5),
    let a := s.reg rs1
    Gives s (.lui rd u) 4 rd (BitVec.ofNat 32 (u.toNat * 2 ^ 12)) ∧
    Gives s (.auipc rd u) 4 rd (BitVec.ofNat 32 (s.pc.toNat + u.toNat * 2 ^ 12)) ∧
    Gives s (.addi rd rs1 imm) 4 rd (BitVec.ofInt 32 (a.toInt + imm.toInt)) ∧
    Gives s (.slti rd rs1 imm) 4 rd (if a.toInt < imm.toInt then 1 else 0) ∧
    Gives s (.sltiu rd rs1 imm) 4 rd (if a.toNat < (imm.signExtend 32).toNat then 1 else 0) ∧
    Gives s (.xori rd rs1 imm) 4 rd (a ^^^ imm.signExtend 32) ∧
    Gives s (.ori rd rs1 imm) 4 rd (a ||| imm.signExtend 32) ∧
    Gives s (.andi rd rs1 imm) 4 rd (a &&& imm.signExtend 32) ∧
    Gives s (.slli rd rs1 sh) 4 rd (BitVec.ofNat 32 (a.toNat * 2 ^ sh.toNat)) ∧
    Gives s (.srli rd rs1 sh) 4 rd (BitVec.ofNat 32 (a.toNat / 2 ^ sh.toNat)) ∧
    Gives s (.srai rd rs1 sh) 4 rd (BitVec.ofInt 32 (a.toInt / 2 ^ sh.toNat))

/-- O36. Integer instructions between registers (40 R228 to R237); a shift uses the low five bits of `rs2`. -/
def Obligations.IntegerRegister : Prop :=
  ∀ (s : State) (rd rs1 rs2 : Reg),
    let a := s.reg rs1
    let b := s.reg rs2
    let n := b.toNat % 32
    Gives s (.add rd rs1 rs2) 4 rd (BitVec.ofInt 32 (a.toInt + b.toInt)) ∧
    Gives s (.sub rd rs1 rs2) 4 rd (BitVec.ofInt 32 (a.toInt - b.toInt)) ∧
    Gives s (.sll rd rs1 rs2) 4 rd (BitVec.ofNat 32 (a.toNat * 2 ^ n)) ∧
    Gives s (.slt rd rs1 rs2) 4 rd (if a.toInt < b.toInt then 1 else 0) ∧
    Gives s (.sltu rd rs1 rs2) 4 rd (if a.toNat < b.toNat then 1 else 0) ∧
    Gives s (.xor rd rs1 rs2) 4 rd (a ^^^ b) ∧
    Gives s (.srl rd rs1 rs2) 4 rd (BitVec.ofNat 32 (a.toNat / 2 ^ n)) ∧
    Gives s (.sra rd rs1 rs2) 4 rd (BitVec.ofInt 32 (a.toInt / 2 ^ n)) ∧
    Gives s (.or rd rs1 rs2) 4 rd (a ||| b) ∧
    Gives s (.and rd rs1 rs2) 4 rd (a &&& b)

/-- O37. Multiplication and division (40 R241 to R248): by zero the quotient is all ones and the remainder the dividend; the quotient of
the most negative number by -1 wraps. -/
def Obligations.MultiplyAndDivide : Prop :=
  ∀ (s : State) (rd rs1 rs2 : Reg),
    let a := s.reg rs1
    let b := s.reg rs2
    Gives s (.mul rd rs1 rs2) 4 rd (BitVec.ofInt 32 (a.toInt * b.toInt)) ∧
    Gives s (.mulh rd rs1 rs2) 4 rd (BitVec.ofInt 32 (a.toInt * b.toInt / 2 ^ 32)) ∧
    Gives s (.mulhsu rd rs1 rs2) 4 rd (BitVec.ofInt 32 (a.toInt * b.toNat / 2 ^ 32)) ∧
    Gives s (.mulhu rd rs1 rs2) 4 rd (BitVec.ofNat 32 (a.toNat * b.toNat / 2 ^ 32)) ∧
    Gives s (.div rd rs1 rs2) 4 rd (if b = 0 then 0xFFFFFFFF else BitVec.ofInt 32 (a.toInt.tdiv b.toInt)) ∧
    Gives s (.divu rd rs1 rs2) 4 rd (if b = 0 then 0xFFFFFFFF else BitVec.ofNat 32 (a.toNat / b.toNat)) ∧
    Gives s (.rem rd rs1 rs2) 4 rd (if b = 0 then a else BitVec.ofInt 32 (a.toInt.tmod b.toInt)) ∧
    Gives s (.remu rd rs1 rs2) 4 rd (if b = 0 then a else BitVec.ofNat 32 (a.toNat % b.toNat))

/-- O38. Jumps (40 R203, R204; 41 R269, R280, R286, R289): the link register receives the address after the instruction, `rs1` is read
before it is written, and bit 0 of the target is dropped. -/
def Obligations.Jumps : Prop :=
  ∀ (s : State) (rd rs1 : Reg) (j : BitVec 20) (imm : BitVec 12) (c : BitVec 11),
    JumpsTo s (.jal rd j) 4 rd (s.pc + BitVec.ofInt 32 (2 * j.toInt)) ∧
    JumpsTo s (.jalr rd rs1 imm) 4 rd (s.reg rs1 + imm.signExtend 32) ∧
    JumpsTo s (.cJ c) 2 0 (s.pc + BitVec.ofInt 32 (2 * c.toInt)) ∧
    JumpsTo s (.cJal c) 2 1 (s.pc + BitVec.ofInt 32 (2 * c.toInt)) ∧
    JumpsTo s (.cJr rs1) 2 0 (s.reg rs1) ∧
    JumpsTo s (.cJalr rs1) 2 1 (s.reg rs1)

/-- O39. Branches (40 R205 to R210; 41 R281, R282): taken exactly when the comparison holds, to the pc plus the offset; no register and
no memory changes either way. -/
def Obligations.BranchInstructions : Prop :=
  ∀ (s : State) (rs1 rs2 : Reg) (c1 : Reg3) (imm : BitVec 12) (imm8 : BitVec 8),
    let a := s.reg rs1
    let b := s.reg rs2
    let p := s.pc + BitVec.ofInt 32 (2 * imm.toInt)
    let q := s.pc + BitVec.ofInt 32 (2 * imm8.toInt)
    Branches s (.beq rs1 rs2 imm) 4 (a = b) p ∧
    Branches s (.bne rs1 rs2 imm) 4 (a ≠ b) p ∧
    Branches s (.blt rs1 rs2 imm) 4 (a.toInt < b.toInt) p ∧
    Branches s (.bge rs1 rs2 imm) 4 (b.toInt ≤ a.toInt) p ∧
    Branches s (.bltu rs1 rs2 imm) 4 (a.toNat < b.toNat) p ∧
    Branches s (.bgeu rs1 rs2 imm) 4 (b.toNat ≤ a.toNat) p ∧
    Branches s (.cBeqz c1 imm8) 2 (s.reg (1#2 ++ c1) = 0) q ∧
    Branches s (.cBnez c1 imm8) 2 (s.reg (1#2 ++ c1) ≠ 0) q

/-- O40. Loads (40 R211 to R215; 41 R263, R284): the bytes from the address on, the least significant first, at any alignment, sign- or
zero-extended. A byte is that of memory where the platform has memory; elsewhere nothing is said of it (20_memory R132, 93 U2;
notes/assumptions/4.md). -/
def Obligations.LoadInstructions : Prop :=
  ∀ (s : State) (rd rs1 : Reg) (imm : BitVec 12) (cd c1 : Reg3) (u5 : BitVec 5) (u6 : BitVec 6),
    let a := s.reg rs1 + imm.signExtend 32
    let word := fun p : Word => s.loadByte (p + 3) ++ s.loadByte (p + 2) ++ s.loadByte (p + 1) ++ s.loadByte p
    (∀ p, s.cfg.hasData p = true → s.loadByte p = s.mem.byte p) ∧
    Loads s (.lb rd rs1 imm) 4 rd ((s.loadByte a).signExtend 32) ∧
    Loads s (.lh rd rs1 imm) 4 rd ((s.loadByte (a + 1) ++ s.loadByte a).signExtend 32) ∧
    Loads s (.lw rd rs1 imm) 4 rd (word a) ∧
    Loads s (.lbu rd rs1 imm) 4 rd ((s.loadByte a).setWidth 32) ∧
    Loads s (.lhu rd rs1 imm) 4 rd ((s.loadByte (a + 1) ++ s.loadByte a).setWidth 32) ∧
    Loads s (.cLw cd c1 u5) 2 (1#2 ++ cd) (word (s.reg (1#2 ++ c1) + BitVec.ofNat 32 (4 * u5.toNat))) ∧
    Loads s (.cLwsp rd u6) 2 rd (word (s.reg 2 + BitVec.ofNat 32 (4 * u6.toNat)))

/-- O41. Stores (40 R216 to R218; 41 R264, R291): the low bytes of `rs2` from the address on, the least significant first, at any
alignment; every other byte of memory and every register as before. What the prefetcher may still hold of the words stored to is the
16-byte window of notes/assumptions/11.md, a choice of the model. -/
def Obligations.StoreInstructions : Prop :=
  ∀ (s : State) (rs2 rs1 : Reg) (imm : BitVec 12) (c2 c1 : Reg3) (u5 : BitVec 5) (u6 : BitVec 6), s.mem.wf = true →
    let a := s.reg rs1 + imm.signExtend 32
    let v := s.reg rs2
    Stores s (.sb rs2 rs1 imm) 4 a 1 v 0 0 ∧
    Stores s (.sh rs2 rs1 imm) 4 a 2 v 0 0 ∧
    Stores s (.sw rs2 rs1 imm) 4 a 4 v 0 0 ∧
    Stores s (.cSw c2 c1 u5) 2 (s.reg (1#2 ++ c1) + BitVec.ofNat 32 (4 * u5.toNat)) 4 (s.reg (1#2 ++ c2)) 0 0 ∧
    Stores s (.cSwsp rs2 u6) 2 (s.reg 2 + BitVec.ofNat 32 (4 * u6.toNat)) 4 v 0 0

/-- O42. Compressed instructions that compute (41 R262, R267, R268, R270 to R279, R283, R287, R290): each does what its expansion does and
is two bytes long. -/
def Obligations.CompressedCompute : Prop :=
  ∀ (s : State) (rd rs2 : Reg) (cd c2 : Reg3) (imm : BitVec 6) (u8 : BitVec 8) (sh : BitVec 5),
    let x := 1#2 ++ cd
    let y := s.reg (1#2 ++ c2)
    CompletesWith s s (.cNop imm) 0 0 2 none 0 ∧
    Gives s (.cAddi4spn cd u8) 2 x (s.reg 2 + BitVec.ofNat 32 (4 * u8.toNat)) ∧
    Gives s (.cAddi rd imm) 2 rd (BitVec.ofInt 32 ((s.reg rd).toInt + imm.toInt)) ∧
    Gives s (.cLi rd imm) 2 rd (BitVec.ofInt 32 imm.toInt) ∧
    Gives s (.cAddi16sp imm) 2 2 (BitVec.ofInt 32 ((s.reg 2).toInt + 16 * imm.toInt)) ∧
    Gives s (.cLui rd imm) 2 rd (BitVec.ofInt 32 (imm.toInt * 2 ^ 12)) ∧
    Gives s (.cSrli cd sh) 2 x (BitVec.ofNat 32 ((s.reg x).toNat / 2 ^ sh.toNat)) ∧
    Gives s (.cSrai cd sh) 2 x (BitVec.ofInt 32 ((s.reg x).toInt / 2 ^ sh.toNat)) ∧
    Gives s (.cAndi cd imm) 2 x (s.reg x &&& imm.signExtend 32) ∧
    Gives s (.cSub cd c2) 2 x (BitVec.ofInt 32 ((s.reg x).toInt - y.toInt)) ∧
    Gives s (.cXor cd c2) 2 x (s.reg x ^^^ y) ∧
    Gives s (.cOr cd c2) 2 x (s.reg x ||| y) ∧
    Gives s (.cAnd cd c2) 2 x (s.reg x &&& y) ∧
    Gives s (.cSlli rd sh) 2 rd (BitVec.ofNat 32 ((s.reg rd).toNat * 2 ^ sh.toNat)) ∧
    Gives s (.cMv rd rs2) 2 rd (s.reg rs2) ∧
    Gives s (.cAdd rd rs2) 2 rd (BitVec.ofInt 32 ((s.reg rd).toInt + (s.reg rs2).toInt))

/-! ### Floating point -/

/-- O43. Floating-point loads and stores (43 R325, R326; 41 R265, R266, R285, R292), where F has its own registers and is on: a load
writes the F register and makes FS Dirty, a store leaves FS as it is. What a store leaves in the prefetcher is the 16-byte window of
notes/assumptions/11.md, what a load gets where there is no memory is left open as notes/assumptions/4.md says; both are choices of
the model. -/
def Obligations.FloatLoadsAndStores : Prop :=
  ∀ (s : State) (r rs1 : Reg) (imm : BitVec 12) (cd c1 : Reg3) (u5 : BitVec 5) (u6 : BitVec 6),
    FpOn s → s.cfg.zfinx = false → s.mem.wf = true →
    let word := fun p : Word => s.loadByte (p + 3) ++ s.loadByte (p + 2) ++ s.loadByte (p + 1) ++ s.loadByte p
    let loads := fun (i : Instr) (len : Word) (rd : Reg) (a : Word) =>
      ∃ t, exec i s = .next t ∧ WritesFreg s t rd (word a) ∧ KeepsMemory s t ∧
        Completes { s with mstatus := s.mstatus ||| 0x6000 } s t len none evLoad
    let a := s.reg rs1 + imm.signExtend 32
    let b := s.reg (1#2 ++ c1) + BitVec.ofNat 32 (4 * u5.toNat)
    let c := s.reg 2 + BitVec.ofNat 32 (4 * u6.toNat)
    (∀ p, s.cfg.hasData p = true → s.loadByte p = s.mem.byte p) ∧
    loads (.flw r rs1 imm) 4 r a ∧ loads (.cFlw cd c1 u5) 2 (1#2 ++ cd) b ∧ loads (.cFlwsp r u6) 2 r c ∧
    Stores s (.fsw r rs1 imm) 4 a 4 (s.freg r) 0 0 ∧ Stores s (.cFsw cd c1 u5) 2 b 4 (s.freg (1#2 ++ cd)) 0 0 ∧
    Stores s (.cFswsp r u6) 2 c 4 (s.freg r) 0 0

/-- O44. The instructions that round (43 R327 to R335, R341, R342, R348, R349), under the mode that the `rm` field or frm names (R323): the
destination receives the result, its flags are ORed into fflags, FS becomes Dirty, nothing else changes. The results themselves
are the subject of O46 to O49. -/
def Obligations.FloatRoundingInstructions : Prop :=
  ∀ (s : State) (rd r1 r2 r3 : Reg) (rm : BitVec 3) (m : Rounding), FpOn s →
    (m, if rm = 7 then s.frm else rm) ∈ [(.rne, 0#3), (.rtz, 1#3), (.rdn, 2#3), (.rup, 3#3), (.rmm, 4#3)] →
    let a := s.freg r1
    let b := s.freg r2
    let c := s.freg r3
    let neg := fun w : Word => w ^^^ 0x80000000
    FpGives s (.faddS rd r1 r2 rm) rd (fAdd m a b) ∧ FpGives s (.fsubS rd r1 r2 rm) rd (fAdd m a (neg b)) ∧
    FpGives s (.fmulS rd r1 r2 rm) rd (fMul m a b) ∧ FpGives s (.fdivS rd r1 r2 rm) rd (fDiv m a b) ∧
    FpGives s (.fsqrtS rd r1 rm) rd (fSqrt m a) ∧
    FpGives s (.fmaddS rd r1 r2 r3 rm) rd (fMulAdd m a b c) ∧
    FpGives s (.fmsubS rd r1 r2 r3 rm) rd (fMulAdd m a b (neg c)) ∧
    FpGives s (.fnmsubS rd r1 r2 r3 rm) rd (fMulAdd m (neg a) b c) ∧
    FpGives s (.fnmaddS rd r1 r2 r3 rm) rd (fMulAdd m (neg a) b (neg c)) ∧
    FpGives s (.fcvtSW rd r1 rm) rd (fOfInt m (s.reg r1).toInt) ∧
    FpGives s (.fcvtSWu rd r1 rm) rd (fOfInt m (s.reg r1).toNat) ∧
    FpGivesInt s (.fcvtWS rd r1 rm) rd (fToSigned m a) ∧ FpGivesInt s (.fcvtWuS rd r1 rm) rd (fToUnsigned m a)

/-- O45. The instructions that do not round (43 R336 to R340, R343 to R347, R350): sign injection and moves keep the bits, comparisons
order the numbers, a signalling NaN (for `flt.s` and `fle.s` any NaN) raises NV. -/
def Obligations.FloatExactInstructions : Prop :=
  ∀ (s : State) (rd r1 r2 : Reg), FpOn s →
    let a := s.freg r1
    let b := s.freg r2
    let num := isNaN a = false ∧ isNaN b = false
    let inj := fun p : Bool => (if p then a ||| 0x80000000 else a &&& 0x7FFFFFFF, (0 : BitVec 5))
    let nv := if isSNaN a || isSNaN b then flagNV else 0
    let order := fun w : Word => if w.getLsbD 31 then -((w &&& 0x7FFFFFFF).toNat : Int) else (w &&& 0x7FFFFFFF).toNat
    FpGives s (.fsgnjS rd r1 r2) rd (inj (b.getLsbD 31)) ∧ FpGives s (.fsgnjnS rd r1 r2) rd (inj (!b.getLsbD 31)) ∧
    FpGives s (.fsgnjxS rd r1 r2) rd (inj (a.getLsbD 31 ^^ b.getLsbD 31)) ∧
    (∃ v, FpGives s (.fminS rd r1 r2) rd (v, nv) ∧
      (num → (v = a ∨ v = b) ∧ order v ≤ order a ∧ order v ≤ order b ∧
        (order a = order b → a.getLsbD 31 = true ∨ b.getLsbD 31 = true → v.getLsbD 31 = true)) ∧
      (isNaN a = true → isNaN b = false → v = b) ∧ (isNaN a = false → isNaN b = true → v = a) ∧
      (isNaN a = true → isNaN b = true → v = 0x7FC00000)) ∧
    (∃ v, FpGives s (.fmaxS rd r1 r2) rd (v, nv) ∧
      (num → (v = a ∨ v = b) ∧ order a ≤ order v ∧ order b ≤ order v ∧
        (order a = order b → a.getLsbD 31 = false ∨ b.getLsbD 31 = false → v.getLsbD 31 = false)) ∧
      (isNaN a = true → isNaN b = false → v = b) ∧ (isNaN a = false → isNaN b = true → v = a) ∧
      (isNaN a = true → isNaN b = true → v = 0x7FC00000)) ∧
    (num → FpGivesInt s (.feqS rd r1 r2) rd (if order a = order b then 1 else 0, 0) ∧
      FpGivesInt s (.fltS rd r1 r2) rd (if order a < order b then 1 else 0, 0) ∧
      FpGivesInt s (.fleS rd r1 r2) rd (if order a ≤ order b then 1 else 0, 0)) ∧
    (¬ num → FpGivesInt s (.feqS rd r1 r2) rd (0, nv) ∧ FpGivesInt s (.fltS rd r1 r2) rd (0, flagNV) ∧
      FpGivesInt s (.fleS rd r1 r2) rd (0, flagNV)) ∧
    (∃ k : Fin 10, FpGivesInt s (.fclassS rd r1) rd (BitVec.ofNat 32 (2 ^ k.val), 0) ∧
      (k.val = 9 ↔ isNaN a = true ∧ isSNaN a = false) ∧ (k.val = 8 ↔ isSNaN a = true) ∧
      (k.val = 0 ↔ a = 0xFF800000) ∧ (k.val = 7 ↔ a = 0x7F800000) ∧ (k.val = 3 ↔ a = 0x80000000) ∧ (k.val = 4 ↔ a = 0) ∧
      (k.val = 1 ∨ k.val = 2 → a.getLsbD 31 = true) ∧ (k.val = 5 ∨ k.val = 6 → a.getLsbD 31 = false) ∧
      (k.val = 2 ∨ k.val = 5 → a.extractLsb' 23 8 = 0) ∧ (k.val = 1 ∨ k.val = 6 → a.extractLsb' 23 8 ≠ 0)) ∧
    (s.cfg.zfinx = false → FpGivesInt s (.fmvXW rd r1) rd (a, 0) ∧ FpGives s (.fmvWX rd r1) rd (s.reg r1, 0))

/-- O46. Addition, multiplication and fused multiplication of finite numbers (43 R327, R331, R333): the exact result, rounded once;
subtraction and the negated forms are these on operands with the sign bit flipped. -/
def Obligations.FloatSumsAndProductsRoundOnce : Prop :=
  ∀ (m : Rounding) (a b c : Word), isFinite a = true → isFinite b = true → isFinite c = true →
    (fValue a + fValue b ≠ 0 → RoundsTo m (fValue a + fValue b) (fAdd m a b)) ∧
    (fValue a * fValue b ≠ 0 → RoundsTo m (fValue a * fValue b) (fMul m a b)) ∧
    (fValue a * fValue b + fValue c ≠ 0 → RoundsTo m (fValue a * fValue b + fValue c) (fMulAdd m a b c)) ∧
    fValue (a ^^^ 0x80000000) = -fValue a ∧ isFinite (a ^^^ 0x80000000) = true

/-- O47. Division and square root of finite numbers (43 R334, R335), and conversion from an integer (R348, R349): the exact result,
rounded once. The square root is compared through squares: no midpoint or bound that rounding could ask about lies between the
result's neighbours and the root. -/
def Obligations.FloatQuotientsRootsRoundOnce : Prop :=
  ∀ (m : Rounding) (a b : Word) (v : Int), isFinite a = true → isFinite b = true →
    (fValue a ≠ 0 → fValue b ≠ 0 → RoundsTo m (fValue a / fValue b) (fDiv m a b)) ∧
    (v ≠ 0 → |v| ≤ 2 ^ 32 → RoundsTo m v (fOfInt m v)) ∧
    (0 < fValue a → ∃ x : ℚ, 0 < x ∧ RoundsTo m x (fSqrt m a) ∧
      ∀ y : ℚ, 0 < y → (∃ k : ℕ, ∃ e : ℤ, k < 2 ^ 25 ∧ y = (k : ℚ) * 2 ^ e) → (x < y ↔ fValue a < y ^ 2) ∧ (x = y ↔ fValue a = y ^ 2))

/-- O48. The operands that are not finite numbers, and exact zeros (43 R321, R327, R331, R333 to R335): an invalid operation gives the
canonical NaN with NV, a NaN operand gives the canonical NaN with NV when it signals, division of a finite number by zero gives
an infinity with DZ, an exact zero sum has the sign that its terms share and otherwise is +0, or -0 under RDN. -/
def Obligations.FloatSpecialOperands : Prop :=
  ∀ (m : Rounding) (a b c : Word),
    let nan := fun p : Bool => ((0x7FC00000 : Word), if p then flagNV else 0)
    let inf := fun neg : Bool => if neg then (0xFF800000 : Word) else 0x7F800000
    let zer := fun neg : Bool => if neg then (0x80000000 : Word) else 0
    let sa := a.getLsbD 31
    let sb := b.getLsbD 31
    let sc := c.getLsbD 31
    let timesInvalid := (isInf a = true ∧ isZero b = true) ∨ (isZero a = true ∧ isInf b = true)
    (isNaN a = true ∨ isNaN b = true →
      fAdd m a b = nan (isSNaN a || isSNaN b) ∧ fMul m a b = nan (isSNaN a || isSNaN b) ∧
      fDiv m a b = nan (isSNaN a || isSNaN b)) ∧
    (isNaN a = true → fSqrt m a = nan (isSNaN a)) ∧
    (timesInvalid → fMulAdd m a b c = nan true ∧ fMul m a b = nan true) ∧
    (¬ timesInvalid → isNaN a = true ∨ isNaN b = true ∨ isNaN c = true →
      fMulAdd m a b c = nan (isSNaN a || isSNaN b || isSNaN c)) ∧
    (isNaN a = false → isNaN b = false →
      (isInf a = true → isInf b = true → sa ≠ sb → fAdd m a b = nan true) ∧
      (isInf a = true → ¬ (isInf b = true ∧ sa ≠ sb) → fAdd m a b = (a, 0)) ∧
      (isInf a = false → isInf b = true → fAdd m a b = (b, 0)) ∧
      (isFinite a = true → isFinite b = true → fValue a + fValue b = 0 →
        fAdd m a b = (zer (if sa = sb then sa else m = .rdn), 0)) ∧
      (¬ timesInvalid → isInf a = true ∨ isInf b = true → fMul m a b = (inf (sa ^^ sb), 0) ∧
        (isNaN c = false → fMulAdd m a b c =
          if isInf c && (sc != (sa ^^ sb)) then nan true else (inf (sa ^^ sb), 0))) ∧
      (isFinite a = true → isFinite b = true → isInf c = true → fMulAdd m a b c = (c, 0)) ∧
      (isFinite a = true → isFinite b = true → isFinite c = true → fValue a * fValue b + fValue c = 0 →
        fMulAdd m a b c = (zer (if (sa ^^ sb) = sc then sc else m = .rdn), 0)) ∧
      (isFinite a = true → isFinite b = true → fValue a * fValue b = 0 → fMul m a b = (zer (sa ^^ sb), 0)) ∧
      (isInf a = true → isInf b = true → fDiv m a b = nan true) ∧
      (isZero a = true → isZero b = true → fDiv m a b = nan true) ∧
      (isInf a = true → isInf b = false → fDiv m a b = (inf (sa ^^ sb), 0)) ∧
      (isFinite a = true → isZero a = false → isZero b = true → fDiv m a b = (inf (sa ^^ sb), flagDZ)) ∧
      (isFinite a = true → isInf b = true → fDiv m a b = (zer (sa ^^ sb), 0)) ∧
      (isZero a = true → isFinite b = true → isZero b = false → fDiv m a b = (zer (sa ^^ sb), 0)) ∧
      (isZero a = true → fSqrt m a = (a, 0)) ∧ (sa = true → isZero a = false → fSqrt m a = nan true) ∧
      (a = 0x7F800000 → fSqrt m a = (a, 0))) ∧
    fOfInt m 0 = (0, 0)

/-- O49. Conversion to an integer (43 R341, R342): the finite number rounded to an integer under the mode when that lies in the range,
with NX when it was no integer; otherwise the bound of the range, with NV alone; NaN converts like plus infinity. -/
def Obligations.FloatToInteger : Prop :=
  ∀ (m : Rounding) (a : Word),
    let rounded := fun x : ℚ => match m with
      | .rne => if Int.fract x = 1 / 2 then (if ⌊x⌋ % 2 = 0 then ⌊x⌋ else ⌊x⌋ + 1) else ⌊x + 1 / 2⌋
      | .rtz => if 0 ≤ x then ⌊x⌋ else ⌈x⌉
      | .rdn => ⌊x⌋
      | .rup => ⌈x⌉
      | .rmm => if 0 ≤ x then ⌊x + 1 / 2⌋ else ⌈x - 1 / 2⌉
    let convert := fun (lo hi : Int) =>
      if isFinite a = true then
        if rounded (fValue a) < lo then (BitVec.ofInt 32 lo, flagNV)
        else if hi < rounded (fValue a) then (BitVec.ofInt 32 hi, flagNV)
        else (BitVec.ofInt 32 (rounded (fValue a)), if (rounded (fValue a) : ℚ) = fValue a then 0 else flagNX)
      else (BitVec.ofInt 32 (if a = 0xFF800000 then lo else hi), flagNV)
    fToSigned m a = convert (-2 ^ 31) (2 ^ 31 - 1) ∧ fToUnsigned m a = convert 0 (2 ^ 32 - 1)

/-! ### Xcv: memory, event load, hardware loops -/

/-- O50. Xcv loads (44 R371 to R386): post-incremented ones load from the base address and add the offset to the base register, the
loaded value winning when both are one register; indexed ones load from base plus index. Where the platform has memory, the bytes are
those of memory (20_memory R132); elsewhere nothing is said of them (93 U2; notes/assumptions/4.md, a choice of the model). -/
def Obligations.XcvLoads : Prop :=
  ∀ (s : State) (rd rs1 rs2 : Reg) (imm : BitVec 12), s.cfg.corevPulp = true →
    let a := s.reg rs1
    let byte := fun p : Word => s.loadByte p
    let hw := fun p : Word => s.loadByte (p + 1) ++ s.loadByte p
    let word := fun p : Word => s.loadByte (p + 3) ++ s.loadByte (p + 2) ++ s.loadByte (p + 1) ++ s.loadByte p
    let post := fun (i : Instr) (off v : Word) =>
      ∃ t, exec i s = .next t ∧
        (∀ q : Reg, t.reg q = if q = 0 then 0 else if q = rd then v else if q = rs1 then a + off else s.reg q) ∧
        t.f = s.f ∧ KeepsMemory s t ∧ Completes s s t 4 none evLoad
    let forms := fun (pi pr ix : Instr) (v : Word → Word) =>
      post pi (imm.signExtend 32) (v a) ∧ post pr (s.reg rs2) (v a) ∧ Loads s ix 4 rd (v (a + s.reg rs2))
    (∀ p, s.cfg.hasData p = true → s.loadByte p = s.mem.byte p) ∧
    forms (.cvLbPostImm rd rs1 imm) (.cvLbPostReg rd rs1 rs2) (.cvLbIdx rd rs1 rs2) (fun p => (byte p).signExtend 32) ∧
    forms (.cvLbuPostImm rd rs1 imm) (.cvLbuPostReg rd rs1 rs2) (.cvLbuIdx rd rs1 rs2) (fun p => (byte p).setWidth 32) ∧
    forms (.cvLhPostImm rd rs1 imm) (.cvLhPostReg rd rs1 rs2) (.cvLhIdx rd rs1 rs2) (fun p => (hw p).signExtend 32) ∧
    forms (.cvLhuPostImm rd rs1 imm) (.cvLhuPostReg rd rs1 rs2) (.cvLhuIdx rd rs1 rs2) (fun p => (hw p).setWidth 32) ∧
    forms (.cvLwPostImm rd rs1 imm) (.cvLwPostReg rd rs1 rs2) (.cvLwIdx rd rs1 rs2) word

/-- O51. Xcv stores (44 R371, R387 to R395): the low bytes of `rs2` at the base address, and the base register post-incremented; the
indexed forms store at base plus index and change no register. What the prefetcher may still hold of the words stored to is the
16-byte window of notes/assumptions/11.md, a choice of the model. -/
def Obligations.XcvStores : Prop :=
  ∀ (s : State) (rs2 rs1 rs3 : Reg) (imm : BitVec 12), s.cfg.corevPulp = true → s.mem.wf = true →
    let a := s.reg rs1
    let v := s.reg rs2
    let x := s.reg rs3
    let forms := fun (pi pr ix : Instr) (n : Nat) =>
      Stores s pi 4 a n v rs1 (a + imm.signExtend 32) ∧ Stores s pr 4 a n v rs1 (a + x) ∧ Stores s ix 4 (a + x) n v 0 0
    forms (.cvSbPostImm rs2 rs1 imm) (.cvSbPostReg rs2 rs1 rs3) (.cvSbIdx rs2 rs1 rs3) 1 ∧
    forms (.cvShPostImm rs2 rs1 imm) (.cvShPostReg rs2 rs1 rs3) (.cvShIdx rs2 rs1 rs3) 2 ∧
    forms (.cvSwPostImm rs2 rs1 imm) (.cvSwPostReg rs2 rs1 rs3) (.cvSwIdx rs2 rs1 rs3) 4

/-- O52. `cv.elw` (44 R400): with its response it loads a word and completes. While the Event Unit withholds it, nothing changes but that
the hart waits, asleep unless a debug request, Debug Mode, a single step or a trigger match keeps it awake. The hart that waits goes
on with that `cv.elw`, whatever its address holds by now, unless an event takes its place where U7 allows one; asleep it stays as it
is while there is no response, no debug request and no interrupt that it may take. Waiting as a state of its own, the pc at the
`cv.elw`, and which trigger match keeps the hart awake are the model's reading (notes/assumptions/16.md); a load where there is no
memory is left open (notes/assumptions/4.md). -/
def Obligations.EventLoad : Prop :=
  ∀ (s : State) (rd rs1 : Reg) (imm : BitVec 12), s.cfg.corevCluster = true →
    let a := s.reg rs1 + imm.signExtend 32
    let i := Instr.cvElw rd rs1 imm
    let w : EventRead := ⟨rd, rs1, imm⟩
    let b := s.beginStep
    (∀ p, s.cfg.hasData p = true → s.loadByte p = s.mem.byte p) ∧
    (s.dataStall = false → Loads s i 4 rd
      (s.loadByte (a + 3) ++ s.loadByte (a + 2) ++ s.loadByte (a + 1) ++ s.loadByte a)) ∧
    (s.dataStall = true → ∃ z, exec i s = .next { s with elwWaiting := some w, sleeping := z } ∧
      (z = false ↔ s.debugReq = true ∨ s.debugPending = true ∨ s.debugMode = true ∨ s.stepPhase = .armed ∨
        (s.tdata1.getLsbD 2 = true ∧ s.pc = s.tdata2))) ∧
    (s.elwWaiting = some w → Runs s → (Attends s → b.boundary = none) → ∀ t, exec i b = .next t →
      (loopViolation i b t = false → step s = .next (b.afterStep t)) ∧
      (loopViolation i b t = true → step s = .refused .hwLoopViolation)) ∧
    (s.elwWaiting = some w → s.cfg.legal = true → s.fetchEnabled = true → s.sleeping = true → s.dataStall = true →
      s.debugReq = false → s.debugPending = false → (s.cfg.elwInterruptible = true → s.interruptToTake = none) →
      step s = .next s)

/-- O53. The hardware-loop instructions (45 R415 to R422): each writes the fields of the register set it names and no other register. And
what `loopViolation` reports of any instruction (R412, R414): in an active body a 16-bit instruction, a jump or branch, a fence, an
mret, dret or wfi, or a write to that loop's registers; a hardware-loop instruction at an address that is no multiple of 4; new
bounds for a loop that counts; a count for bounds that are not allowed; control arriving in an active body elsewhere than at its
start, from an instruction not before it. For a word that is no instruction `undecodableViolation` reports the last, and a 16-bit
parcel in an active body (30_encoding R160; notes/assumptions/30.md). Without COREV_PULP there are no loops (R410) and both report
nothing (notes/assumptions/12.md). How the last is read (returns from traps and the inner loop of two going back enter nothing) is the
model's (notes/assumptions/12.md). -/
def Obligations.HardwareLoopSetup : Prop :=
  ∀ (s : State) (l : BitVec 1) (rs1 : Reg) (u : BitVec 12) (v : BitVec 5),
    (s.cfg.corevPulp = false → ∀ (t : State) (i : Instr) (x : Word),
      loopViolation i s t = false ∧ undecodableViolation x s t = false) ∧
    (s.cfg.corevPulp = true →
      let sets := fun (i : Instr) (f : HwLoop → HwLoop) =>
        CompletesWith (if l = 0 then { s with loop0 := f s.loop0 } else { s with loop1 := f s.loop1 }) s i 0 0 4 none 0
      let al := fun w : Word => w &&& 0xFFFFFFFC
      sets (.cvStarti l u) (fun h => { h with start := al (s.pc + BitVec.ofNat 32 (4 * u.toNat)) }) ∧
      sets (.cvStart l rs1) (fun h => { h with start := al (s.reg rs1) }) ∧
      sets (.cvEndi l u) (fun h => { h with stop := al (s.pc + BitVec.ofNat 32 (4 * u.toNat)) }) ∧
      sets (.cvEnd l rs1) (fun h => { h with stop := al (s.reg rs1) }) ∧
      sets (.cvCounti l u) (fun h => { h with count := BitVec.ofNat 32 u.toNat }) ∧
      sets (.cvCount l rs1) (fun h => { h with count := s.reg rs1 }) ∧
      sets (.cvSetupi l u v) (fun _ => ⟨al (s.pc + 4), al (s.pc + BitVec.ofNat 32 (4 * v.toNat)), BitVec.ofNat 32 u.toNat⟩) ∧
      sets (.cvSetup l rs1 u) (fun _ => ⟨al (s.pc + 4), al (s.pc + BitVec.ofNat 32 (4 * u.toNat)), s.reg rs1⟩) ∧
      ∀ (t : State) (i : Instr),
        let bounds := fun l : BitVec 1 => ∃ (r : Reg) (u : BitVec 12) (v : BitVec 5),
          i ∈ [.cvStarti l u, .cvStart l r, .cvEndi l u, .cvEnd l r, .cvSetupi l u v, .cvSetup l r u]
        let counts := fun l : BitVec 1 => ∃ (r : Reg) (u : BitVec 12) (v : BitVec 5),
          i ∈ [.cvCounti l u, .cvCount l r, .cvSetupi l u v, .cvSetup l r u]
        let inBody := fun (h : HwLoop) (p : Word) => h.count ≠ 0 ∧ h.start.toNat ≤ p.toNat ∧ p.toNat + 4 ≤ h.stop.toNat
        let jumps := (∃ w, encode i = .full w ∧ w.extractLsb' 0 7 ∈ [0x63#7, 0x67#7, 0x6F#7]) ∨
          ∃ (r : Reg) (u : BitVec 5) (m : BitVec 12), i = .cvBeqimm r u m ∨ i = .cvBneimm r u m
        let fences := ∃ w, encode i = .full w ∧ w.extractLsb' 0 7 = 0x0F
        let arrives := t.elwWaiting = none ∧ ∃ l : BitVec 1,
          inBody (t.loop l) t.pc ∧ t.pc ≠ (t.loop l).start ∧ t.pc ≠ s.pc + 4 ∧
            ¬ (l = 1 ∧ inBody s.loop1 s.pc ∧ s.endsLoop0 ∧ t.loop0.count ≠ s.loop0.count)
        (loopViolation i s t = true ↔
          (∃ l : BitVec 1, inBody (s.loop l) s.pc ∧
            ((∃ p, encode i = .half p) ∨ jumps ∨ fences ∨ i ∈ [.mret, .dret, .wfi] ∨ bounds l ∨ counts l)) ∨
          (∃ l : BitVec 1, (bounds l ∨ counts l) ∧ s.pc.toNat % 4 ≠ 0) ∨
          (∃ l : BitVec 1, bounds l ∧ (s.loop l).count ≠ 0) ∨
          (∃ l : BitVec 1, counts l ∧ (t.loop l).count ≠ 0 ∧
            ((t.loop l).stop.toNat < (t.loop l).start.toNat + 12 ∨
              (t.loop0.count ≠ 0 ∧ t.loop1.count ≠ 0 ∧ t.loop1.stop.toNat < t.loop0.stop.toNat + 8))) ∨
          (¬ (i = .mret ∧ s.debugMode = false) ∧ ¬ (i = .dret ∧ s.debugMode = true) ∧ arrives)) ∧
        (∀ x : Word, undecodableViolation x s t = true ↔
          (∃ l : BitVec 1, inBody (s.loop l) s.pc ∧ x.extractLsb' 0 2 ≠ 3) ∨ arrives))

/-! ### Xcv: ALU and multiply-accumulate -/

/-- O54. The Xcv bit-field instructions (46 R440 to R451) and `cv.bitrev` (R446), bit by bit: a field of width `w` + 1 at position `p`,
cut off at bit 31; the register forms take `p` and `w` from bits 4:0 and 9:5 of `rs2`. -/
def Obligations.BitFields : Prop :=
  ∀ (s : State) (rd rs1 rs2 : Reg) (w p : BitVec 5) (g : BitVec 2), s.cfg.corevPulp = true →
    let a := s.reg rs1
    let d := s.reg rd
    let b := s.reg rs2
    let is := fun (i : Instr) (f : Nat → Bool) => ∃ v : Word, (∀ n, n < 32 → v.getLsbD n = f n) ∧ Gives s i 4 rd v
    let last := fun p w : Nat => min (p + w) 31
    let inField := fun p w n : Nat => p ≤ n ∧ n ≤ last p w
    let forms := fun (p w : Nat) (ex exu ins clr set : Instr) =>
      is ex (fun n => if p + n ≤ last p w then a.getLsbD (p + n) else a.getLsbD (last p w)) ∧
      is exu (fun n => if p + n ≤ last p w then a.getLsbD (p + n) else false) ∧
      is ins (fun n => if inField p w n then a.getLsbD (n - p) else d.getLsbD n) ∧
      is clr (fun n => if inField p w n then false else a.getLsbD n) ∧
      is set (fun n => if inField p w n then true else a.getLsbD n)
    forms p.toNat w.toNat (.cvExtract rd rs1 w p) (.cvExtractu rd rs1 w p) (.cvInsert rd rs1 w p) (.cvBclr rd rs1 w p)
      (.cvBset rd rs1 w p) ∧
    forms (b.toNat % 32) (b.toNat / 32 % 32) (.cvExtractr rd rs1 rs2) (.cvExtractur rd rs1 rs2) (.cvInsertr rd rs1 rs2)
      (.cvBclrr rd rs1 rs2) (.cvBsetr rd rs1 rs2) ∧
    is (.cvBitrev rd rs1 g p) (fun n =>
      let t := a <<< p.toNat
      if g = 1 then t.getLsbD (30 - 2 * (n / 2) + n % 2)
      else if g = 2 then decide (n < 30) && t.getLsbD (29 - 3 * (n / 3) + n % 3)
      else t.getLsbD (31 - n))

/-- O55. Counting and finding bits, and rotating (46 R452 to R456). -/
def Obligations.BitCounts : Prop :=
  ∀ (s : State) (rd rs1 rs2 : Reg), s.cfg.corevPulp = true →
    let a := s.reg rs1
    let is := fun (i : Instr) (P : Nat → Prop) => ∃ k, P k ∧ Gives s i 4 rd (BitVec.ofNat 32 k)
    is (.cvFf1 rd rs1) (fun k => (a = 0 → k = 32) ∧
      (a ≠ 0 → k < 32 ∧ a.getLsbD k = true ∧ ∀ n, n < k → a.getLsbD n = false)) ∧
    is (.cvFl1 rd rs1) (fun k => (a = 0 → k = 32) ∧
      (a ≠ 0 → k < 32 ∧ a.getLsbD k = true ∧ ∀ n, k < n → a.getLsbD n = false)) ∧
    is (.cvClb rd rs1) (fun k => (a = 0 → k = 0) ∧
      (a ≠ 0 → k < 32 ∧ (∀ n, 31 - k ≤ n → n < 32 → a.getLsbD n = a.getLsbD 31) ∧
        (k < 31 → a.getLsbD (30 - k) ≠ a.getLsbD 31))) ∧
    is (.cvCnt rd rs1) (fun k => k = (Finset.filter (fun n => a.getLsbD n = true) (Finset.range 32)).card) ∧
    ∃ v : Word, (∀ n, n < 32 → v.getLsbD n = a.getLsbD ((n + (s.reg rs2).toNat) % 32)) ∧ Gives s (.cvRor rd rs1 rs2) 4 rd v

/-- O56. The general Xcv ALU (46 R460 to R474, R495, R496): absolute value, comparisons, minima and maxima, extensions, clipping to
-2^(n-1) .. 2^(n-1) - 1 or 0 .. 2^(n-1) - 1 or to the bound in `rs2` without its sign bit, branches on a five-bit immediate. -/
def Obligations.XcvGeneralAlu : Prop :=
  ∀ (s : State) (rd rs1 rs2 : Reg) (n imm5 : BitVec 5) (imm : BitVec 12), s.cfg.corevPulp = true →
    let a := s.reg rs1
    let b := s.reg rs2
    let clip := fun (lo hi : Int) => BitVec.ofInt 32 (if a.toInt ≤ lo then lo else if hi ≤ a.toInt then hi else a.toInt)
    let hi : Int := if n = 0 then 0 else 2 ^ (n.toNat - 1) - 1
    let hr : Int := (b &&& 0x7FFFFFFF).toNat
    Gives s (.cvAbs rd rs1) 4 rd (BitVec.ofInt 32 |a.toInt|) ∧
    Gives s (.cvSle rd rs1 rs2) 4 rd (if a.toInt ≤ b.toInt then 1 else 0) ∧
    Gives s (.cvSleu rd rs1 rs2) 4 rd (if a.toNat ≤ b.toNat then 1 else 0) ∧
    Gives s (.cvMin rd rs1 rs2) 4 rd (BitVec.ofInt 32 (min a.toInt b.toInt)) ∧
    Gives s (.cvMinu rd rs1 rs2) 4 rd (BitVec.ofNat 32 (min a.toNat b.toNat)) ∧
    Gives s (.cvMax rd rs1 rs2) 4 rd (BitVec.ofInt 32 (max a.toInt b.toInt)) ∧
    Gives s (.cvMaxu rd rs1 rs2) 4 rd (BitVec.ofNat 32 (max a.toNat b.toNat)) ∧
    Gives s (.cvExths rd rs1) 4 rd ((a.setWidth 16).signExtend 32) ∧
    Gives s (.cvExthz rd rs1) 4 rd (BitVec.ofNat 32 (a.toNat % 2 ^ 16)) ∧
    Gives s (.cvExtbs rd rs1) 4 rd ((a.setWidth 8).signExtend 32) ∧
    Gives s (.cvExtbz rd rs1) 4 rd (BitVec.ofNat 32 (a.toNat % 2 ^ 8)) ∧
    Gives s (.cvClip rd rs1 n) 4 rd (clip (-hi - 1) hi) ∧
    Gives s (.cvClipu rd rs1 n) 4 rd (clip 0 hi) ∧
    Gives s (.cvClipr rd rs1 rs2) 4 rd (clip (-hr - 1) hr) ∧
    Gives s (.cvClipur rd rs1 rs2) 4 rd (clip 0 hr) ∧
    Branches s (.cvBeqimm rs1 imm5 imm) 4 (a.toInt = imm5.toInt) (s.pc + BitVec.ofInt 32 (2 * imm.toInt)) ∧
    Branches s (.cvBneimm rs1 imm5 imm) 4 (a.toInt ≠ imm5.toInt) (s.pc + BitVec.ofInt 32 (2 * imm.toInt))

/-- O57. Additions and subtractions with normalisation and rounding (46 R475 to R490), and the multiplications and multiply-accumulate
instructions (47 R511 to R528): the sum or product, plus 2^(n-1) where the mnemonic rounds and `n` is not 0, modulo 2^32, shifted
right by `n`, arithmetically or, for the unsigned ones, logically. That the sum, its rounding constant included, is reduced modulo 2^32
before the shift is the choice of the spec (46 R440, R491, 47 R510, 92 D8), which the model takes (notes/assumptions/35.md): the source
says nothing of the width of the intermediate, and an unbounded one gives other results. -/
def Obligations.NormalisingArithmetic : Prop :=
  ∀ (s : State) (rd rs1 rs2 : Reg) (n : BitVec 5), s.cfg.corevPulp = true →
    let a := (s.reg rs1).toInt
    let b := (s.reg rs2).toInt
    let d := (s.reg rd).toInt
    let m := (s.reg rs2).toNat % 32
    let half := fun n : Nat => if n = 0 then (0 : Int) else 2 ^ (n - 1)
    let asr := fun (x : Int) (n : Nat) => BitVec.ofInt 32 ((BitVec.ofInt 32 x).toInt / 2 ^ n)
    let lsr := fun (x : Int) (n : Nat) => BitVec.ofNat 32 ((BitVec.ofInt 32 x).toNat / 2 ^ n)
    let lu := fun r : Reg => ((s.reg r).toNat % 2 ^ 16 : Int)
    let hu := fun r : Reg => ((s.reg r).toNat / 2 ^ 16 : Int)
    let ls := fun r : Reg => ((s.reg r).setWidth 16).toInt
    let hs := fun r : Reg => (s.reg r).toInt / 2 ^ 16
    let k := n.toNat
    let is := fun (i : Instr) (v : Word) => Gives s i 4 rd v
    (is (.cvAddN rd rs1 rs2 n) (asr (a + b) k) ∧ is (.cvAdduN rd rs1 rs2 n) (lsr (a + b) k) ∧
      is (.cvAddRN rd rs1 rs2 n) (asr (a + b + half k) k) ∧ is (.cvAdduRN rd rs1 rs2 n) (lsr (a + b + half k) k) ∧
      is (.cvSubN rd rs1 rs2 n) (asr (a - b) k) ∧ is (.cvSubuN rd rs1 rs2 n) (lsr (a - b) k) ∧
      is (.cvSubRN rd rs1 rs2 n) (asr (a - b + half k) k) ∧ is (.cvSubuRN rd rs1 rs2 n) (lsr (a - b + half k) k)) ∧
    (is (.cvAddNr rd rs1 rs2) (asr (d + a) m) ∧ is (.cvAdduNr rd rs1 rs2) (lsr (d + a) m) ∧
      is (.cvAddRNr rd rs1 rs2) (asr (d + a + half m) m) ∧ is (.cvAdduRNr rd rs1 rs2) (lsr (d + a + half m) m) ∧
      is (.cvSubNr rd rs1 rs2) (asr (d - a) m) ∧ is (.cvSubuNr rd rs1 rs2) (lsr (d - a) m) ∧
      is (.cvSubRNr rd rs1 rs2) (asr (d - a + half m) m) ∧ is (.cvSubuRNr rd rs1 rs2) (lsr (d - a + half m) m)) ∧
    (is (.cvMuluN rd rs1 rs2 n) (lsr (lu rs1 * lu rs2) k) ∧ is (.cvMulhhuN rd rs1 rs2 n) (lsr (hu rs1 * hu rs2) k) ∧
      is (.cvMulsN rd rs1 rs2 n) (asr (ls rs1 * ls rs2) k) ∧ is (.cvMulhhsN rd rs1 rs2 n) (asr (hs rs1 * hs rs2) k) ∧
      is (.cvMuluRN rd rs1 rs2 n) (lsr (lu rs1 * lu rs2 + half k) k) ∧
      is (.cvMulhhuRN rd rs1 rs2 n) (lsr (hu rs1 * hu rs2 + half k) k) ∧
      is (.cvMulsRN rd rs1 rs2 n) (asr (ls rs1 * ls rs2 + half k) k) ∧
      is (.cvMulhhsRN rd rs1 rs2 n) (asr (hs rs1 * hs rs2 + half k) k)) ∧
    (is (.cvMacuN rd rs1 rs2 n) (lsr (lu rs1 * lu rs2 + d) k) ∧ is (.cvMachhuN rd rs1 rs2 n) (lsr (hu rs1 * hu rs2 + d) k) ∧
      is (.cvMacsN rd rs1 rs2 n) (asr (ls rs1 * ls rs2 + d) k) ∧ is (.cvMachhsN rd rs1 rs2 n) (asr (hs rs1 * hs rs2 + d) k) ∧
      is (.cvMacuRN rd rs1 rs2 n) (lsr (lu rs1 * lu rs2 + d + half k) k) ∧
      is (.cvMachhuRN rd rs1 rs2 n) (lsr (hu rs1 * hu rs2 + d + half k) k) ∧
      is (.cvMacsRN rd rs1 rs2 n) (asr (ls rs1 * ls rs2 + d + half k) k) ∧
      is (.cvMachhsRN rd rs1 rs2 n) (asr (hs rs1 * hs rs2 + d + half k) k)) ∧
    is (.cvMac rd rs1 rs2) (BitVec.ofInt 32 (d + a * b)) ∧ is (.cvMsu rd rs1 rs2) (BitVec.ofInt 32 (d - a * b))

/-! ### Xcv: SIMD -/

/-- O58. SIMD arithmetic and logic, element by element (48 R540 to R629, 49 R803 to R808): wrapped sums and differences, averages,
minima and maxima, shifts by the low bits of the second element, bitwise operations, sums and differences with division. That the
other bits of a shift amount are ignored is the choice of the spec (48 R543, 92 D14), which the model takes (notes/assumptions/40.md). -/
def Obligations.SimdElementwise : Prop :=
  ∀ (s : State) (rd rs1 rs2 : Reg) (imm : BitVec 6), s.cfg.corevPulp = true →
    let e := ElementWise s rd rs1 rs2 imm
    let two := fun (i : Instr) (op : BitVec 16 → BitVec 16 → Int) =>
      GivesHalves s i rd (fun k => BitVec.ofInt 16 (op (half (s.reg rs1) k) (half (s.reg rs2) k)))
    let sum := fun x y : BitVec 16 => (BitVec.ofInt 16 (x.toInt + y.toInt)).toInt
    let dif := fun x y : BitVec 16 => (BitVec.ofInt 16 (x.toInt - y.toInt)).toInt
    e ⟨.cvAddH, .cvAddScH, .cvAddSciH, .cvAddB, .cvAddScB, .cvAddSciB⟩ true
      (fun n x y => BitVec.ofInt n (x.toInt + y.toInt)) ∧
    e ⟨.cvSubH, .cvSubScH, .cvSubSciH, .cvSubB, .cvSubScB, .cvSubSciB⟩ true
      (fun n x y => BitVec.ofInt n (x.toInt - y.toInt)) ∧
    e ⟨.cvAvgH, .cvAvgScH, .cvAvgSciH, .cvAvgB, .cvAvgScB, .cvAvgSciB⟩ true
      (fun n x y => BitVec.ofInt n ((BitVec.ofInt n (x.toInt + y.toInt)).toInt / 2)) ∧
    e ⟨.cvAvguH, .cvAvguScH, .cvAvguSciH, .cvAvguB, .cvAvguScB, .cvAvguSciB⟩ false
      (fun n x y => BitVec.ofNat n ((x.toNat + y.toNat) % 2 ^ n / 2)) ∧
    e ⟨.cvMinH, .cvMinScH, .cvMinSciH, .cvMinB, .cvMinScB, .cvMinSciB⟩ true
      (fun n x y => BitVec.ofInt n (min x.toInt y.toInt)) ∧
    e ⟨.cvMinuH, .cvMinuScH, .cvMinuSciH, .cvMinuB, .cvMinuScB, .cvMinuSciB⟩ false
      (fun n x y => BitVec.ofNat n (min x.toNat y.toNat)) ∧
    e ⟨.cvMaxH, .cvMaxScH, .cvMaxSciH, .cvMaxB, .cvMaxScB, .cvMaxSciB⟩ true
      (fun n x y => BitVec.ofInt n (max x.toInt y.toInt)) ∧
    e ⟨.cvMaxuH, .cvMaxuScH, .cvMaxuSciH, .cvMaxuB, .cvMaxuScB, .cvMaxuSciB⟩ false
      (fun n x y => BitVec.ofNat n (max x.toNat y.toNat)) ∧
    e ⟨.cvSrlH, .cvSrlScH, .cvSrlSciH, .cvSrlB, .cvSrlScB, .cvSrlSciB⟩ false
      (fun n x y => BitVec.ofNat n (x.toNat / 2 ^ (y.toNat % n))) ∧
    e ⟨.cvSraH, .cvSraScH, .cvSraSciH, .cvSraB, .cvSraScB, .cvSraSciB⟩ false
      (fun n x y => BitVec.ofInt n (x.toInt / 2 ^ (y.toNat % n))) ∧
    e ⟨.cvSllH, .cvSllScH, .cvSllSciH, .cvSllB, .cvSllScB, .cvSllSciB⟩ false
      (fun n x y => BitVec.ofNat n (x.toNat * 2 ^ (y.toNat % n))) ∧
    e ⟨.cvOrH, .cvOrScH, .cvOrSciH, .cvOrB, .cvOrScB, .cvOrSciB⟩ true (fun _ x y => x ||| y) ∧
    e ⟨.cvXorH, .cvXorScH, .cvXorSciH, .cvXorB, .cvXorScB, .cvXorSciB⟩ true (fun _ x y => x ^^^ y) ∧
    e ⟨.cvAndH, .cvAndScH, .cvAndSciH, .cvAndB, .cvAndScB, .cvAndSciB⟩ true (fun _ x y => x &&& y) ∧
    two (.cvAddDiv2 rd rs1 rs2) (fun x y => sum x y / 2) ∧ two (.cvAddDiv4 rd rs1 rs2) (fun x y => sum x y / 4) ∧
    two (.cvAddDiv8 rd rs1 rs2) (fun x y => sum x y / 8) ∧ two (.cvSubDiv2 rd rs1 rs2) (fun x y => dif x y / 2) ∧
    two (.cvSubDiv4 rd rs1 rs2) (fun x y => dif x y / 4) ∧ two (.cvSubDiv8 rd rs1 rs2) (fun x y => dif x y / 8)

/-- O59. SIMD comparisons give all ones or zero in each element (49 R713, R720 to R779), and dot products the sum of the element products,
with or without accumulation (49 R660 to R699). Unsigned comparisons and dot products extend the immediate as the parameter of
93 U11 says, zero-extended by default (notes/assumptions/15.md). -/
def Obligations.SimdComparesAndDots : Prop :=
  ∀ (s : State) (rd rs1 rs2 : Reg) (imm : BitVec 6), s.cfg.corevPulp = true →
    let e := ElementWise s rd rs1 rs2 imm
    let u := s.cfg.unsignedSciSignExtends
    let dot := DotProducts s rd rs1 rs2 imm
    let acc : Int := (s.reg rd).toInt
    e ⟨.cvCmpeqH, .cvCmpeqScH, .cvCmpeqSciH, .cvCmpeqB, .cvCmpeqScB, .cvCmpeqSciB⟩ true
      (fun _ x y => if x = y then -1 else 0) ∧
    e ⟨.cvCmpneH, .cvCmpneScH, .cvCmpneSciH, .cvCmpneB, .cvCmpneScB, .cvCmpneSciB⟩ true
      (fun _ x y => if x = y then 0 else -1) ∧
    e ⟨.cvCmpgtH, .cvCmpgtScH, .cvCmpgtSciH, .cvCmpgtB, .cvCmpgtScB, .cvCmpgtSciB⟩ true
      (fun _ x y => if y.toInt < x.toInt then -1 else 0) ∧
    e ⟨.cvCmpgeH, .cvCmpgeScH, .cvCmpgeSciH, .cvCmpgeB, .cvCmpgeScB, .cvCmpgeSciB⟩ true
      (fun _ x y => if y.toInt ≤ x.toInt then -1 else 0) ∧
    e ⟨.cvCmpltH, .cvCmpltScH, .cvCmpltSciH, .cvCmpltB, .cvCmpltScB, .cvCmpltSciB⟩ true
      (fun _ x y => if x.toInt < y.toInt then -1 else 0) ∧
    e ⟨.cvCmpleH, .cvCmpleScH, .cvCmpleSciH, .cvCmpleB, .cvCmpleScB, .cvCmpleSciB⟩ true
      (fun _ x y => if x.toInt ≤ y.toInt then -1 else 0) ∧
    e ⟨.cvCmpgtuH, .cvCmpgtuScH, .cvCmpgtuSciH, .cvCmpgtuB, .cvCmpgtuScB, .cvCmpgtuSciB⟩ u
      (fun _ x y => if y.toNat < x.toNat then -1 else 0) ∧
    e ⟨.cvCmpgeuH, .cvCmpgeuScH, .cvCmpgeuSciH, .cvCmpgeuB, .cvCmpgeuScB, .cvCmpgeuSciB⟩ u
      (fun _ x y => if y.toNat ≤ x.toNat then -1 else 0) ∧
    e ⟨.cvCmpltuH, .cvCmpltuScH, .cvCmpltuSciH, .cvCmpltuB, .cvCmpltuScB, .cvCmpltuSciB⟩ u
      (fun _ x y => if x.toNat < y.toNat then -1 else 0) ∧
    e ⟨.cvCmpleuH, .cvCmpleuScH, .cvCmpleuSciH, .cvCmpleuB, .cvCmpleuScB, .cvCmpleuSciB⟩ u
      (fun _ x y => if x.toNat ≤ y.toNat then -1 else 0) ∧
    dot ⟨.cvDotupH, .cvDotupScH, .cvDotupSciH, .cvDotupB, .cvDotupScB, .cvDotupSciB⟩ u false false 0 ∧
    dot ⟨.cvDotuspH, .cvDotuspScH, .cvDotuspSciH, .cvDotuspB, .cvDotuspScB, .cvDotuspSciB⟩ true false true 0 ∧
    dot ⟨.cvDotspH, .cvDotspScH, .cvDotspSciH, .cvDotspB, .cvDotspScB, .cvDotspSciB⟩ true true true 0 ∧
    dot ⟨.cvSdotupH, .cvSdotupScH, .cvSdotupSciH, .cvSdotupB, .cvSdotupScB, .cvSdotupSciB⟩ u false false acc ∧
    dot ⟨.cvSdotuspH, .cvSdotuspScH, .cvSdotuspSciH, .cvSdotuspB, .cvSdotuspScB, .cvSdotuspSciB⟩ true false true acc ∧
    dot ⟨.cvSdotspH, .cvSdotspScH, .cvSdotspSciH, .cvSdotspB, .cvSdotspScB, .cvSdotspSciB⟩ true true true acc

/-- O60. The rest of SIMD, element by element: absolute values, extraction and insertion (48 R630 to R637), shuffling and packing
(49 R662, R700 to R712), complex products, conjugate and rotation (49 R780 to R802). That the sum or difference of the products of
a complex multiplication is reduced modulo 2^32 before the shift is the choice of the spec (49 R780, 92 D8), which the model takes
(notes/assumptions/35.md): it matters for the imaginary part divided by 4 or 8 when every half is 0x8000. -/
def Obligations.SimdShufflesAndComplex : Prop :=
  ∀ (s : State) (rd rs1 rs2 : Reg) (imm : BitVec 6), s.cfg.corevPulp = true →
    let a := s.reg rs1
    let b := s.reg rs2
    let d := s.reg rd
    let hs := fun (i : Instr) (g : Fin 2 → BitVec 16) => GivesHalves s i rd g
    let bs := fun (i : Instr) (g : Fin 4 → Byte) => GivesBytes s i rd g
    let selH := fun (w : Word) (k : Nat) => half w ⟨k % 2, by omega⟩
    let selB := fun (w : Word) (k : Nat) => lane w ⟨k % 4, by omega⟩
    let re := (half a 0).toInt * (half b 0).toInt - (half a 1).toInt * (half b 1).toInt
    let im := (half a 0).toInt * (half b 1).toInt + (half a 1).toInt * (half b 0).toInt
    let sh := fun (x : Int) (n : Nat) => BitVec.ofInt 16 ((BitVec.ofInt 32 x).toInt / 2 ^ n)
    let rot := fun (n : Nat) (k : Fin 2) =>
      let x := if k = 0 then (half a 1).toInt - (half b 1).toInt else (half b 0).toInt - (half a 0).toInt
      BitVec.ofInt 16 ((BitVec.ofInt 16 x).toInt / 2 ^ n)
    (hs (.cvAbsH rd rs1) (fun k => BitVec.ofInt 16 |(half a k).toInt|) ∧
      bs (.cvAbsB rd rs1) (fun k => BitVec.ofInt 8 |(lane a k).toInt|) ∧
      Gives s (.cvExtractH rd rs1 imm) 4 rd ((selH a imm.toNat).signExtend 32) ∧
      Gives s (.cvExtractB rd rs1 imm) 4 rd ((selB a imm.toNat).signExtend 32) ∧
      Gives s (.cvExtractuH rd rs1 imm) 4 rd ((selH a imm.toNat).setWidth 32) ∧
      Gives s (.cvExtractuB rd rs1 imm) 4 rd ((selB a imm.toNat).setWidth 32) ∧
      hs (.cvInsertH rd rs1 imm) (fun k => if k.val = imm.toNat % 2 then half a 0 else half d k) ∧
      bs (.cvInsertB rd rs1 imm) (fun k => if k.val = imm.toNat % 4 then lane a 0 else lane d k)) ∧
    (hs (.cvShuffleH rd rs1 rs2) (fun k => selH a (half b k).toNat) ∧
      hs (.cvShuffleSciH rd rs1 imm) (fun k => selH a (imm.toNat / 2 ^ k.val)) ∧
      bs (.cvShuffleB rd rs1 rs2) (fun k => selB a (lane b k).toNat) ∧
      bs (.cvShuffleI0SciB rd rs1 imm) (fun k => if k = 3 then lane a 0 else selB a (imm.toNat / 4 ^ k.val)) ∧
      bs (.cvShuffleI1SciB rd rs1 imm) (fun k => if k = 3 then lane a 1 else selB a (imm.toNat / 4 ^ k.val)) ∧
      bs (.cvShuffleI2SciB rd rs1 imm) (fun k => if k = 3 then lane a 2 else selB a (imm.toNat / 4 ^ k.val)) ∧
      bs (.cvShuffleI3SciB rd rs1 imm) (fun k => if k = 3 then lane a 3 else selB a (imm.toNat / 4 ^ k.val)) ∧
      hs (.cvShuffle2H rd rs1 rs2) (fun k => selH (if (half b k).getLsbD 1 then a else d) (half b k).toNat) ∧
      bs (.cvShuffle2B rd rs1 rs2) (fun k => selB (if (lane b k).getLsbD 2 then a else d) (lane b k).toNat) ∧
      hs (.cvPack rd rs1 rs2) (fun k => if k = 0 then half b 0 else half a 0) ∧
      hs (.cvPackH rd rs1 rs2) (fun k => if k = 0 then half b 1 else half a 1) ∧
      bs (.cvPackhiB rd rs1 rs2) (fun k => if k = 3 then lane a 0 else if k = 2 then lane b 0 else lane d k) ∧
      bs (.cvPackloB rd rs1 rs2) (fun k => if k = 1 then lane a 0 else if k = 0 then lane b 0 else lane d k)) ∧
    (hs (.cvCplxmulR rd rs1 rs2) (fun k => if k = 0 then sh re 15 else half d 1) ∧
      hs (.cvCplxmulRDiv2 rd rs1 rs2) (fun k => if k = 0 then sh re 16 else half d 1) ∧
      hs (.cvCplxmulRDiv4 rd rs1 rs2) (fun k => if k = 0 then sh re 17 else half d 1) ∧
      hs (.cvCplxmulRDiv8 rd rs1 rs2) (fun k => if k = 0 then sh re 18 else half d 1) ∧
      hs (.cvCplxmulI rd rs1 rs2) (fun k => if k = 1 then sh im 15 else half d 0) ∧
      hs (.cvCplxmulIDiv2 rd rs1 rs2) (fun k => if k = 1 then sh im 16 else half d 0) ∧
      hs (.cvCplxmulIDiv4 rd rs1 rs2) (fun k => if k = 1 then sh im 17 else half d 0) ∧
      hs (.cvCplxmulIDiv8 rd rs1 rs2) (fun k => if k = 1 then sh im 18 else half d 0) ∧
      hs (.cvCplxconj rd rs1) (fun k => if k = 1 then BitVec.ofInt 16 (-(half a 1).toInt) else half a 0)) ∧
    hs (.cvSubrotmj rd rs1 rs2) (rot 0) ∧ hs (.cvSubrotmjDiv2 rd rs1 rs2) (rot 1) ∧
    hs (.cvSubrotmjDiv4 rd rs1 rs2) (rot 2) ∧ hs (.cvSubrotmjDiv8 rd rs1 rs2) (rot 3)

end Statements
end

