-- ==== Sys2Proof/Laws/Fields.lean ====
section
/-! SUPPORT. The decoder on a word that was put together from fields: each field and each immediate comes back. -/

namespace Sys2Proof

/-- A field of a concatenation that lies wholly in its upper part. -/
theorem extract_high {a b : Nat} (x : BitVec a) (y : BitVec b) (i n : Nat) (h : b ≤ i) :
    (x ++ y).extractLsb' i n = x.extractLsb' (i - b) n :=
  BitVec.extractLsb'_append_eq_of_le h

/-- A field of a concatenation that lies wholly in its lower part. -/
theorem extract_low {a b : Nat} (x : BitVec a) (y : BitVec b) (i n : Nat) (h : i + n ≤ b) :
    (x ++ y).extractLsb' i n = y.extractLsb' i n :=
  BitVec.extractLsb'_append_eq_of_add_le h

/-- Decoding a 32-bit word is decoding its fields. -/
theorem decode32_word32 (f7 : BitVec 7) (rs2 rs1 : Reg) (f3 : BitVec 3) (rd : Reg) (op : BitVec 7) :
    decode32 (word32 f7 rs2 rs1 f3 rd op) = decodeFields f7 rs2 rs1 f3 rd op := by
  unfold decode32 word32
  congr 1 <;> simp (disch := omega) only [extract_high, extract_low, Nat.reduceSub, BitVec.extractLsb'_eq_self]

/-- Decoding a 16-bit parcel is decoding its fields. -/
theorem decode16_word16 (f3 : BitVec 3) (b12 : BitVec 1) (a b : Reg) (q : BitVec 2) :
    decode16 (word16 f3 b12 a b q) = decodeFields16 f3 b12 a b q := by
  unfold decode16 word16
  congr 1 <;> simp (disch := omega) only [extract_high, extract_low, Nat.reduceSub, BitVec.extractLsb'_eq_self]

/-! ### Immediates -/

theorem immI_enc (v : BitVec 12) : immI (v.extractLsb' 5 7) (v.extractLsb' 0 5) = v :=
  BitVec.extractLsb'_append_extractLsb' (w := 7)

theorem immS_enc (v : BitVec 12) : immS (v.extractLsb' 5 7) (v.extractLsb' 0 5) = v :=
  BitVec.extractLsb'_append_extractLsb' (w := 7)

theorem immB_enc (v : BitVec 12) :
    immB (v.extractLsb' 11 1 ++ v.extractLsb' 4 6) (v.extractLsb' 0 4 ++ v.extractLsb' 10 1) = v := by
  apply BitVec.eq_of_getLsbD_eq
  intro i hi
  interval_cases i <;> simp only [immB, BitVec.getLsbD_append, BitVec.getLsbD_extractLsb'] <;> simp

theorem immU_enc (v : BitVec 20) :
    immU (v.extractLsb' 13 7) (v.extractLsb' 8 5) (v.extractLsb' 3 5) (v.extractLsb' 0 3) = v := by
  apply BitVec.eq_of_getLsbD_eq
  intro i hi
  interval_cases i <;> simp only [immU, BitVec.getLsbD_append, BitVec.getLsbD_extractLsb'] <;> simp

theorem immJ_enc (v : BitVec 20) :
    immJ (v.extractLsb' 19 1 ++ v.extractLsb' 0 10 ++ v.extractLsb' 10 1 ++ v.extractLsb' 11 8) = v := by
  apply BitVec.eq_of_getLsbD_eq
  intro i hi
  interval_cases i <;> simp only [immJ, BitVec.getLsbD_append, BitVec.getLsbD_extractLsb'] <;> simp

theorem imm6_enc (v : BitVec 6) : imm6Of (v.extractLsb' 0 1) (v.extractLsb' 1 5) = v :=
  BitVec.extractLsb'_append_extractLsb' (w := 5)

theorem immCl_enc (v : BitVec 5) (r d : Reg3) :
    immCl (v.extractLsb' 3 1) (v.extractLsb' 1 2 ++ r) (v.extractLsb' 0 1 ++ v.extractLsb' 4 1 ++ d) = v := by
  apply BitVec.eq_of_getLsbD_eq
  intro i hi
  interval_cases i <;> simp only [immCl, BitVec.getLsbD_append, BitVec.getLsbD_extractLsb'] <;> simp

theorem immCiw_enc (v : BitVec 8) (d : Reg3) :
    immCiw (v.extractLsb' 3 1) (v.extractLsb' 2 1 ++ v.extractLsb' 4 4) (v.extractLsb' 0 1 ++ v.extractLsb' 1 1 ++ d) = v := by
  apply BitVec.eq_of_getLsbD_eq
  intro i hi
  interval_cases i <;> simp only [immCiw, BitVec.getLsbD_append, BitVec.getLsbD_extractLsb'] <;> simp

theorem immCi_enc (v : BitVec 6) : immCi (v.extractLsb' 5 1) (v.extractLsb' 0 5) = v :=
  BitVec.extractLsb'_append_extractLsb' (w := 1)

theorem immCj_enc (v : BitVec 11) :
    immCj (v.extractLsb' 10 1) (v.extractLsb' 3 1 ++ v.extractLsb' 7 2 ++ v.extractLsb' 9 1 ++ v.extractLsb' 5 1)
      (v.extractLsb' 6 1 ++ v.extractLsb' 0 3 ++ v.extractLsb' 4 1) = v := by
  apply BitVec.eq_of_getLsbD_eq
  intro i hi
  interval_cases i <;> simp only [immCj, BitVec.getLsbD_append, BitVec.getLsbD_extractLsb'] <;> simp

theorem immCb_enc (v : BitVec 8) (r : Reg3) :
    immCb (v.extractLsb' 7 1) (v.extractLsb' 2 2 ++ r) (v.extractLsb' 5 2 ++ v.extractLsb' 0 2 ++ v.extractLsb' 4 1) = v := by
  apply BitVec.eq_of_getLsbD_eq
  intro i hi
  interval_cases i <;> simp only [immCb, BitVec.getLsbD_append, BitVec.getLsbD_extractLsb'] <;> simp

theorem immAddi16sp_enc (v : BitVec 6) :
    immAddi16sp (v.extractLsb' 5 1)
      (v.extractLsb' 0 1 ++ v.extractLsb' 2 1 ++ v.extractLsb' 3 2 ++ v.extractLsb' 1 1) = v := by
  apply BitVec.eq_of_getLsbD_eq
  intro i hi
  interval_cases i <;> simp only [immAddi16sp, BitVec.getLsbD_append, BitVec.getLsbD_extractLsb'] <;> simp

theorem immLwsp_enc (v : BitVec 6) :
    immLwsp (v.extractLsb' 3 1) (v.extractLsb' 0 3 ++ v.extractLsb' 4 2) = v := by
  apply BitVec.eq_of_getLsbD_eq
  intro i hi
  interval_cases i <;> simp only [immLwsp, BitVec.getLsbD_append, BitVec.getLsbD_extractLsb'] <;> simp

theorem immSwsp_enc (v : BitVec 6) :
    immSwsp (v.extractLsb' 3 1) (v.extractLsb' 0 3 ++ v.extractLsb' 4 2) = v := by
  apply BitVec.eq_of_getLsbD_eq
  intro i hi
  interval_cases i <;> simp only [immSwsp, BitVec.getLsbD_append, BitVec.getLsbD_extractLsb'] <;> simp

end Sys2Proof
end

