-- ==== Sys2Proof/Laws/Memory.lean ====
section
/-! SUPPORT. The laws of memory: reading after writing, the canonical form, and byte order (20_memory R134). -/

namespace Sys2Proof.Machine

/-- Everything below the bound of a canonical tail reads as blank. -/
theorem Memory.read_below {m : Memory} {lo a : Nat} (h : m.wfFrom lo = true) (ha : a < lo) : m.read a = Memory.blank := by
  induction m generalizing lo with
  | nil => rfl
  | cons c m ih =>
    obtain ⟨k, v⟩ := c
    simp only [Memory.wfFrom, Bool.and_eq_true, decide_eq_true_eq] at h
    simp only [Memory.read]
    rw [if_neg (by omega)]
    exact ih h.2 (by omega)

/-- A write reads back, in a canonical memory. -/
theorem Memory.read_write_self {m : Memory} {lo a : Nat} (b : Byte) (h : m.wfFrom lo = true) :
    (m.write a b).read a = b := by
  induction m generalizing lo with
  | nil => by_cases hb : b = Memory.blank <;> simp [Memory.write, Memory.read, hb]
  | cons c m ih =>
    obtain ⟨k, v⟩ := c
    simp only [Memory.wfFrom, Bool.and_eq_true, decide_eq_true_eq] at h
    by_cases h1 : a < k
    · by_cases hb : b = Memory.blank
      · simp only [Memory.write, if_pos h1, if_pos hb, Memory.read, if_neg (by omega : ¬ a = k)]
        rw [Memory.read_below h.2 (by omega), hb]
      · simp [Memory.write, if_pos h1, hb, Memory.read]
    · by_cases h2 : a = k
      · subst h2
        by_cases hb : b = Memory.blank
        · simp only [Memory.write, if_neg h1, if_pos hb, if_true]
          rw [Memory.read_below h.2 (by omega), hb]
        · simp [Memory.write, hb, Memory.read]
      · simp only [Memory.write, if_neg h1, if_neg h2, Memory.read]
        exact ih h.2

/-- A write leaves every other address alone. -/
theorem Memory.read_write_of_ne (m : Memory) {a a' : Nat} (b : Byte) (h : a' ≠ a) : (m.write a b).read a' = m.read a' := by
  induction m with
  | nil => by_cases hb : b = Memory.blank <;> simp [Memory.write, Memory.read, hb, h]
  | cons c m ih =>
    obtain ⟨k, v⟩ := c
    by_cases h1 : a < k
    · by_cases hb : b = Memory.blank <;> simp [Memory.write, if_pos h1, hb, Memory.read, h]
    · by_cases h2 : a = k
      · subst h2
        by_cases hb : b = Memory.blank <;> simp [Memory.write, hb, Memory.read, h]
      · simp only [Memory.write, if_neg h1, if_neg h2, Memory.read, ih]

/-- A canonical tail is canonical from any lower bound. -/
theorem Memory.wfFrom_mono {m : Memory} {lo lo' : Nat} (h : m.wfFrom lo = true) (hl : lo' ≤ lo) : m.wfFrom lo' = true := by
  cases m with
  | nil => rfl
  | cons c m =>
    obtain ⟨k, v⟩ := c
    simp only [Memory.wfFrom, Bool.and_eq_true, decide_eq_true_eq] at h ⊢
    exact ⟨⟨⟨by omega, h.1.1.2⟩, h.1.2⟩, h.2⟩

/-- A write keeps the canonical form. -/
theorem Memory.wfFrom_write {m : Memory} {lo a : Nat} (b : Byte) (h : m.wfFrom lo = true) (hlo : lo ≤ a)
    (ha : a < 2 ^ 32) : (m.write a b).wfFrom lo = true := by
  induction m generalizing lo with
  | nil =>
    by_cases hb : b = Memory.blank
    · simp [Memory.write, Memory.wfFrom, hb]
    · simp only [Memory.write, if_neg hb, Memory.wfFrom, Bool.and_true, Bool.and_eq_true, decide_eq_true_eq, bne_iff_ne, ne_eq]
      exact ⟨⟨hlo, ha⟩, hb⟩
  | cons c m ih =>
    obtain ⟨k, v⟩ := c
    have h' := h
    simp only [Memory.wfFrom, Bool.and_eq_true, decide_eq_true_eq, bne_iff_ne, ne_eq] at h
    by_cases h1 : a < k
    · by_cases hb : b = Memory.blank
      · simpa only [Memory.write, if_pos h1, if_pos hb] using h'
      · simp only [Memory.write, if_pos h1, if_neg hb, Memory.wfFrom, Bool.and_eq_true, decide_eq_true_eq, bne_iff_ne, ne_eq]
        exact ⟨⟨⟨hlo, ha⟩, hb⟩, ⟨⟨by omega, h.1.1.2⟩, h.1.2⟩, h.2⟩
    · by_cases h2 : a = k
      · subst h2
        by_cases hb : b = Memory.blank
        · simp only [Memory.write, if_neg h1, if_pos hb, if_true]
          exact Memory.wfFrom_mono h.2 (by omega)
        · simp only [Memory.write, if_neg h1, if_neg hb, if_true, Memory.wfFrom, Bool.and_eq_true, decide_eq_true_eq, bne_iff_ne,
            ne_eq]
          exact ⟨⟨⟨hlo, ha⟩, hb⟩, h.2⟩
      · simp only [Memory.write, if_neg h1, if_neg h2, Memory.wfFrom, Bool.and_eq_true, decide_eq_true_eq, bne_iff_ne, ne_eq]
        exact ⟨h.1, ih h.2 (by omega)⟩

/-- A byte store keeps the canonical form. -/
theorem Memory.wf_setByte {m : Memory} (a : Word) (v : Byte) (h : m.wf = true) : (m.setByte a v).wf = true :=
  Memory.wfFrom_write v h (Nat.zero_le _) a.isLt

/-- A halfword store keeps the canonical form. -/
theorem Memory.wf_setHalf {m : Memory} (a : Word) (v : BitVec 16) (h : m.wf = true) : (m.setHalf a v).wf = true :=
  Memory.wf_setByte _ _ (Memory.wf_setByte _ _ h)

/-- A word store keeps the canonical form. -/
theorem Memory.wf_setWord {m : Memory} (a : Word) (v : Word) (h : m.wf = true) : (m.setWord a v).wf = true :=
  Memory.wf_setByte _ _ (Memory.wf_setByte _ _ (Memory.wf_setByte _ _ (Memory.wf_setByte _ _ h)))

/-- A byte read after a byte store, at the same address. -/
theorem Memory.byte_setByte_self {m : Memory} (a : Word) (v : Byte) (h : m.wf = true) : (m.setByte a v).byte a = v :=
  Memory.read_write_self v h

/-- A byte read after a byte store, at another address. -/
theorem Memory.byte_setByte_of_ne (m : Memory) {a b : Word} (v : Byte) (h : b ≠ a) : (m.setByte a v).byte b = m.byte b :=
  Memory.read_write_of_ne m v (fun e => h (BitVec.eq_of_toNat_eq e))

/-- A halfword store writes its two bytes, the low one first (R134). -/
theorem Memory.byte_setHalf {m : Memory} (a : Word) (v : BitVec 16) (h : m.wf = true) :
    (m.setHalf a v).byte a = v.extractLsb' 0 8 ∧ (m.setHalf a v).byte (a + 1) = v.extractLsb' 8 8 := by
  have h01 : a ≠ a + 1 := by simp
  refine ⟨?_, Memory.byte_setByte_self _ _ (Memory.wf_setByte _ _ h)⟩
  rw [Memory.setHalf, Memory.byte_setByte_of_ne _ _ h01, Memory.byte_setByte_self _ _ h]

/-- A halfword read after a halfword store at the same address. -/
theorem Memory.half_setHalf {m : Memory} (a : Word) (v : BitVec 16) (h : m.wf = true) : (m.setHalf a v).half a = v := by
  rw [Memory.half, (Memory.byte_setHalf a v h).1, (Memory.byte_setHalf a v h).2]
  exact BitVec.extractLsb'_append_extractLsb' (w := 8)

/-- A halfword store leaves every other byte alone. -/
theorem Memory.byte_setHalf_of_ne (m : Memory) {a b : Word} (v : BitVec 16) (h0 : b ≠ a) (h1 : b ≠ a + 1) :
    (m.setHalf a v).byte b = m.byte b := by
  rw [Memory.setHalf, Memory.byte_setByte_of_ne _ _ h1, Memory.byte_setByte_of_ne _ _ h0]

/-- A word store writes its four bytes, the low one first (R134). -/
theorem Memory.byte_setWord {m : Memory} (a : Word) (v : Word) (h : m.wf = true) :
    (m.setWord a v).byte a = v.extractLsb' 0 8 ∧ (m.setWord a v).byte (a + 1) = v.extractLsb' 8 8 ∧
      (m.setWord a v).byte (a + 2) = v.extractLsb' 16 8 ∧ (m.setWord a v).byte (a + 3) = v.extractLsb' 24 8 := by
  have h01 : a ≠ a + 1 := by simp
  have h02 : a ≠ a + 2 := by simp
  have h03 : a ≠ a + 3 := by simp
  have h12 : a + 1 ≠ a + 2 := by simp
  have h13 : a + 1 ≠ a + 3 := by simp
  have h23 : a + 2 ≠ a + 3 := by simp
  have w1 := Memory.wf_setByte a (v.extractLsb' 0 8) h
  have w2 := Memory.wf_setByte (a + 1) (v.extractLsb' 8 8) w1
  have w3 := Memory.wf_setByte (a + 2) (v.extractLsb' 16 8) w2
  refine ⟨?_, ?_, ?_, Memory.byte_setByte_self _ _ w3⟩
  · rw [Memory.setWord, Memory.byte_setByte_of_ne _ _ h03, Memory.byte_setByte_of_ne _ _ h02,
      Memory.byte_setByte_of_ne _ _ h01, Memory.byte_setByte_self _ _ h]
  · rw [Memory.setWord, Memory.byte_setByte_of_ne _ _ h13, Memory.byte_setByte_of_ne _ _ h12,
      Memory.byte_setByte_self _ _ w1]
  · rw [Memory.setWord, Memory.byte_setByte_of_ne _ _ h23, Memory.byte_setByte_self _ _ w2]

/-- The four bytes of a word, put together. -/
theorem bytes_of_word (v : Word) : v.extractLsb' 24 8 ++ v.extractLsb' 16 8 ++ v.extractLsb' 8 8 ++ v.extractLsb' 0 8 = v := by
  apply BitVec.eq_of_getLsbD_eq
  intro i hi
  interval_cases i <;> simp only [BitVec.getLsbD_append, BitVec.getLsbD_extractLsb'] <;> simp

/-- A word read after a word store at the same address. -/
theorem Memory.word_setWord {m : Memory} (a : Word) (v : Word) (h : m.wf = true) : (m.setWord a v).word a = v := by
  obtain ⟨h0, h1, h2, h3⟩ := Memory.byte_setWord a v h
  rw [Memory.word, h0, h1, h2, h3, bytes_of_word]

/-- A word store leaves every other byte alone. -/
theorem Memory.byte_setWord_of_ne (m : Memory) {a b : Word} (v : Word) (h0 : b ≠ a) (h1 : b ≠ a + 1) (h2 : b ≠ a + 2)
    (h3 : b ≠ a + 3) : (m.setWord a v).byte b = m.byte b := by
  rw [Memory.setWord, Memory.byte_setByte_of_ne _ _ h3, Memory.byte_setByte_of_ne _ _ h2, Memory.byte_setByte_of_ne _ _ h1,
    Memory.byte_setByte_of_ne _ _ h0]

/-- Canonical memories that read the same are the same data. -/
theorem Memory.ext_read {m n : Memory} {lo : Nat} (hm : m.wfFrom lo = true) (hn : n.wfFrom lo = true)
    (h : ∀ a, m.read a = n.read a) : m = n := by
  induction m generalizing n lo with
  | nil =>
    cases n with
    | nil => rfl
    | cons d n =>
      obtain ⟨l, w⟩ := d
      have hl := h l
      simp only [Memory.read, if_true, Memory.wfFrom, Bool.and_eq_true, bne_iff_ne, ne_eq] at hl hn
      exact absurd hl.symm hn.1.2
  | cons c m ih =>
    obtain ⟨k, v⟩ := c
    cases n with
    | nil =>
      have hk := h k
      simp only [Memory.read, if_true, Memory.wfFrom, Bool.and_eq_true, bne_iff_ne, ne_eq] at hk hm
      exact absurd hk hm.1.2
    | cons d n =>
      obtain ⟨l, w⟩ := d
      simp only [Memory.wfFrom, Bool.and_eq_true, decide_eq_true_eq, bne_iff_ne, ne_eq] at hm hn
      have hk := h k
      have hl := h l
      have e : k = l := by
        rcases Nat.lt_trichotomy k l with c | c | c
        · simp only [Memory.read, if_true, if_neg (by omega : ¬ k = l)] at hk
          rw [Memory.read_below hn.2 (by omega)] at hk
          exact absurd hk hm.1.2
        · exact c
        · simp only [Memory.read, if_true, if_neg (by omega : ¬ l = k)] at hl
          rw [Memory.read_below hm.2 (by omega)] at hl
          exact absurd hl.symm hn.1.2
      subst e
      have hv : v = w := by simpa [Memory.read] using hk
      subst hv
      congr 1
      refine ih hm.2 hn.2 (fun a => ?_)
      by_cases ha : a = k
      · subst ha
        rw [Memory.read_below hm.2 (by omega), Memory.read_below hn.2 (by omega)]
      · simpa [Memory.read, ha] using h a

/-! ### The stores of the hart -/

theorem State.storeByte_mem (s : State) (a : Word) (v : Byte) : (s.storeByte a v).mem = s.mem.setByte a v := by
  unfold State.storeByte; simp only; congr 1; exact noteWords_mem s a 0
where
  noteWords_mem (s : State) (a n : Word) : (s.noteWords a n).mem = s.mem := by
    unfold State.noteWords State.noteWord State.keepOld
    split <;> (repeat' split) <;> rfl

theorem State.storeHalf_mem (s : State) (a : Word) (v : BitVec 16) : (s.storeHalf a v).mem = s.mem.setHalf a v := by
  unfold State.storeHalf; simp only; congr 1; exact State.storeByte_mem.noteWords_mem s a 1

theorem State.storeWord_mem (s : State) (a v : Word) : (s.storeWord a v).mem = s.mem.setWord a v := by
  unfold State.storeWord; simp only; congr 1; exact State.storeByte_mem.noteWords_mem s a 3

/-! ### Loads and fetches -/

/-- Where the platform has memory, a load gets what stands there (20_memory R132). -/
theorem State.loadByte_of_hasData {s : State} {a : Word} (h : s.cfg.hasData a = true) : s.loadByte a = s.mem.byte a :=
  if_pos h

/-- Where the platform has memory, a fetch gets what stands there (20_memory R132). -/
theorem State.codeByte_of_hasCode {s : State} {a : Word} (h : s.cfg.hasCode a = true) : s.codeByte a = s.codeMem.byte a :=
  if_pos h

/-- A platform with memory everywhere has it at every address. -/
theorem Config.hasData_of_everywhere {c : Config} (h : c.dataMap = [{ base := 0, size := 2 ^ 32 }]) (a : Word) :
    c.hasData a = true := by
  unfold Config.hasData Region.has
  rw [h]
  simpa using a.isLt

/-- The memory of the reset state is canonical. -/
theorem reset_mem_wf (c : Config) : (State.resetWith c).mem.wf = true := rfl

end Sys2Proof.Machine
end

