-- ==== Sys2Proof/Laws/State.lean ====
section
/-! SUPPORT. What each named update of the state leaves alone, one lemma per field, for `simp`: no later proof unfolds an update to
see that a field is unchanged. -/

namespace Sys2Proof.Machine

/-! `setReg` -/

@[simp] theorem State.setReg_cfg (s : State) (r : Reg) (v : Word) : (s.setReg r v).cfg = s.cfg := by unfold State.setReg; split <;> rfl
@[simp] theorem State.setReg_f (s : State) (r : Reg) (v : Word) : (s.setReg r v).f = s.f := by unfold State.setReg; split <;> rfl
@[simp] theorem State.setReg_pc (s : State) (r : Reg) (v : Word) : (s.setReg r v).pc = s.pc := by unfold State.setReg; split <;> rfl
@[simp] theorem State.setReg_fflags (s : State) (r : Reg) (v : Word) : (s.setReg r v).fflags = s.fflags := by unfold State.setReg; split <;> rfl
@[simp] theorem State.setReg_frm (s : State) (r : Reg) (v : Word) : (s.setReg r v).frm = s.frm := by unfold State.setReg; split <;> rfl
@[simp] theorem State.setReg_mstatus (s : State) (r : Reg) (v : Word) : (s.setReg r v).mstatus = s.mstatus := by unfold State.setReg; split <;> rfl
@[simp] theorem State.setReg_mie (s : State) (r : Reg) (v : Word) : (s.setReg r v).mie = s.mie := by unfold State.setReg; split <;> rfl
@[simp] theorem State.setReg_mtvec (s : State) (r : Reg) (v : Word) : (s.setReg r v).mtvec = s.mtvec := by unfold State.setReg; split <;> rfl
@[simp] theorem State.setReg_mscratch (s : State) (r : Reg) (v : Word) : (s.setReg r v).mscratch = s.mscratch := by unfold State.setReg; split <;> rfl
@[simp] theorem State.setReg_mepc (s : State) (r : Reg) (v : Word) : (s.setReg r v).mepc = s.mepc := by unfold State.setReg; split <;> rfl
@[simp] theorem State.setReg_mcause (s : State) (r : Reg) (v : Word) : (s.setReg r v).mcause = s.mcause := by unfold State.setReg; split <;> rfl
@[simp] theorem State.setReg_tdata1 (s : State) (r : Reg) (v : Word) : (s.setReg r v).tdata1 = s.tdata1 := by unfold State.setReg; split <;> rfl
@[simp] theorem State.setReg_tdata2 (s : State) (r : Reg) (v : Word) : (s.setReg r v).tdata2 = s.tdata2 := by unfold State.setReg; split <;> rfl
@[simp] theorem State.setReg_dcsr (s : State) (r : Reg) (v : Word) : (s.setReg r v).dcsr = s.dcsr := by unfold State.setReg; split <;> rfl
@[simp] theorem State.setReg_dpc (s : State) (r : Reg) (v : Word) : (s.setReg r v).dpc = s.dpc := by unfold State.setReg; split <;> rfl
@[simp] theorem State.setReg_dscratch0 (s : State) (r : Reg) (v : Word) : (s.setReg r v).dscratch0 = s.dscratch0 := by unfold State.setReg; split <;> rfl
@[simp] theorem State.setReg_dscratch1 (s : State) (r : Reg) (v : Word) : (s.setReg r v).dscratch1 = s.dscratch1 := by unfold State.setReg; split <;> rfl
@[simp] theorem State.setReg_loop0 (s : State) (r : Reg) (v : Word) : (s.setReg r v).loop0 = s.loop0 := by unfold State.setReg; split <;> rfl
@[simp] theorem State.setReg_loop1 (s : State) (r : Reg) (v : Word) : (s.setReg r v).loop1 = s.loop1 := by unfold State.setReg; split <;> rfl
@[simp] theorem State.setReg_mcountinhibit (s : State) (r : Reg) (v : Word) : (s.setReg r v).mcountinhibit = s.mcountinhibit := by unfold State.setReg; split <;> rfl
@[simp] theorem State.setReg_mcycle (s : State) (r : Reg) (v : Word) : (s.setReg r v).mcycle = s.mcycle := by unfold State.setReg; split <;> rfl
@[simp] theorem State.setReg_minstret (s : State) (r : Reg) (v : Word) : (s.setReg r v).minstret = s.minstret := by unfold State.setReg; split <;> rfl
@[simp] theorem State.setReg_hpmEvent (s : State) (r : Reg) (v : Word) : (s.setReg r v).hpmEvent = s.hpmEvent := by unfold State.setReg; split <;> rfl
@[simp] theorem State.setReg_hpmCounter (s : State) (r : Reg) (v : Word) : (s.setReg r v).hpmCounter = s.hpmCounter := by unfold State.setReg; split <;> rfl
@[simp] theorem State.setReg_debugMode (s : State) (r : Reg) (v : Word) : (s.setReg r v).debugMode = s.debugMode := by unfold State.setReg; split <;> rfl
@[simp] theorem State.setReg_debugPending (s : State) (r : Reg) (v : Word) : (s.setReg r v).debugPending = s.debugPending := by unfold State.setReg; split <;> rfl
@[simp] theorem State.setReg_stepPhase (s : State) (r : Reg) (v : Word) : (s.setReg r v).stepPhase = s.stepPhase := by unfold State.setReg; split <;> rfl
@[simp] theorem State.setReg_sleeping (s : State) (r : Reg) (v : Word) : (s.setReg r v).sleeping = s.sleeping := by unfold State.setReg; split <;> rfl
@[simp] theorem State.setReg_elwWaiting (s : State) (r : Reg) (v : Word) : (s.setReg r v).elwWaiting = s.elwWaiting := by unfold State.setReg; split <;> rfl
@[simp] theorem State.setReg_fetchEnabled (s : State) (r : Reg) (v : Word) : (s.setReg r v).fetchEnabled = s.fetchEnabled := by unfold State.setReg; split <;> rfl
@[simp] theorem State.setReg_mem (s : State) (r : Reg) (v : Word) : (s.setReg r v).mem = s.mem := by unfold State.setReg; split <;> rfl
@[simp] theorem State.setReg_imem (s : State) (r : Reg) (v : Word) : (s.setReg r v).imem = s.imem := by unfold State.setReg; split <;> rfl
@[simp] theorem State.setReg_stale (s : State) (r : Reg) (v : Word) : (s.setReg r v).stale = s.stale := by unfold State.setReg; split <;> rfl
@[simp] theorem State.setReg_irq (s : State) (r : Reg) (v : Word) : (s.setReg r v).irq = s.irq := by unfold State.setReg; split <;> rfl
@[simp] theorem State.setReg_debugReq (s : State) (r : Reg) (v : Word) : (s.setReg r v).debugReq = s.debugReq := by unfold State.setReg; split <;> rfl
@[simp] theorem State.setReg_fetchEnablePin (s : State) (r : Reg) (v : Word) : (s.setReg r v).fetchEnablePin = s.fetchEnablePin := by unfold State.setReg; split <;> rfl
@[simp] theorem State.setReg_pulpClockEn (s : State) (r : Reg) (v : Word) : (s.setReg r v).pulpClockEn = s.pulpClockEn := by unfold State.setReg; split <;> rfl
@[simp] theorem State.setReg_dataStall (s : State) (r : Reg) (v : Word) : (s.setReg r v).dataStall = s.dataStall := by unfold State.setReg; split <;> rfl
@[simp] theorem State.setReg_irqAck (s : State) (r : Reg) (v : Word) : (s.setReg r v).irqAck = s.irqAck := by unfold State.setReg; split <;> rfl
@[simp] theorem State.setReg_draws (s : State) (r : Reg) (v : Word) : (s.setReg r v).draws = s.draws := by unfold State.setReg; split <;> rfl

/-! `setFreg` -/

@[simp] theorem State.setFreg_cfg (s : State) (r : Reg) (v : Word) : (s.setFreg r v).cfg = s.cfg := by unfold State.setFreg; split <;> simp
@[simp] theorem State.setFreg_pc (s : State) (r : Reg) (v : Word) : (s.setFreg r v).pc = s.pc := by unfold State.setFreg; split <;> simp
@[simp] theorem State.setFreg_fflags (s : State) (r : Reg) (v : Word) : (s.setFreg r v).fflags = s.fflags := by unfold State.setFreg; split <;> simp
@[simp] theorem State.setFreg_frm (s : State) (r : Reg) (v : Word) : (s.setFreg r v).frm = s.frm := by unfold State.setFreg; split <;> simp
@[simp] theorem State.setFreg_mstatus (s : State) (r : Reg) (v : Word) : (s.setFreg r v).mstatus = s.mstatus := by unfold State.setFreg; split <;> simp
@[simp] theorem State.setFreg_mie (s : State) (r : Reg) (v : Word) : (s.setFreg r v).mie = s.mie := by unfold State.setFreg; split <;> simp
@[simp] theorem State.setFreg_mtvec (s : State) (r : Reg) (v : Word) : (s.setFreg r v).mtvec = s.mtvec := by unfold State.setFreg; split <;> simp
@[simp] theorem State.setFreg_mscratch (s : State) (r : Reg) (v : Word) : (s.setFreg r v).mscratch = s.mscratch := by unfold State.setFreg; split <;> simp
@[simp] theorem State.setFreg_mepc (s : State) (r : Reg) (v : Word) : (s.setFreg r v).mepc = s.mepc := by unfold State.setFreg; split <;> simp
@[simp] theorem State.setFreg_mcause (s : State) (r : Reg) (v : Word) : (s.setFreg r v).mcause = s.mcause := by unfold State.setFreg; split <;> simp
@[simp] theorem State.setFreg_tdata1 (s : State) (r : Reg) (v : Word) : (s.setFreg r v).tdata1 = s.tdata1 := by unfold State.setFreg; split <;> simp
@[simp] theorem State.setFreg_tdata2 (s : State) (r : Reg) (v : Word) : (s.setFreg r v).tdata2 = s.tdata2 := by unfold State.setFreg; split <;> simp
@[simp] theorem State.setFreg_dcsr (s : State) (r : Reg) (v : Word) : (s.setFreg r v).dcsr = s.dcsr := by unfold State.setFreg; split <;> simp
@[simp] theorem State.setFreg_dpc (s : State) (r : Reg) (v : Word) : (s.setFreg r v).dpc = s.dpc := by unfold State.setFreg; split <;> simp
@[simp] theorem State.setFreg_dscratch0 (s : State) (r : Reg) (v : Word) : (s.setFreg r v).dscratch0 = s.dscratch0 := by unfold State.setFreg; split <;> simp
@[simp] theorem State.setFreg_dscratch1 (s : State) (r : Reg) (v : Word) : (s.setFreg r v).dscratch1 = s.dscratch1 := by unfold State.setFreg; split <;> simp
@[simp] theorem State.setFreg_loop0 (s : State) (r : Reg) (v : Word) : (s.setFreg r v).loop0 = s.loop0 := by unfold State.setFreg; split <;> simp
@[simp] theorem State.setFreg_loop1 (s : State) (r : Reg) (v : Word) : (s.setFreg r v).loop1 = s.loop1 := by unfold State.setFreg; split <;> simp
@[simp] theorem State.setFreg_mcountinhibit (s : State) (r : Reg) (v : Word) : (s.setFreg r v).mcountinhibit = s.mcountinhibit := by unfold State.setFreg; split <;> simp
@[simp] theorem State.setFreg_mcycle (s : State) (r : Reg) (v : Word) : (s.setFreg r v).mcycle = s.mcycle := by unfold State.setFreg; split <;> simp
@[simp] theorem State.setFreg_minstret (s : State) (r : Reg) (v : Word) : (s.setFreg r v).minstret = s.minstret := by unfold State.setFreg; split <;> simp
@[simp] theorem State.setFreg_hpmEvent (s : State) (r : Reg) (v : Word) : (s.setFreg r v).hpmEvent = s.hpmEvent := by unfold State.setFreg; split <;> simp
@[simp] theorem State.setFreg_hpmCounter (s : State) (r : Reg) (v : Word) : (s.setFreg r v).hpmCounter = s.hpmCounter := by unfold State.setFreg; split <;> simp
@[simp] theorem State.setFreg_debugMode (s : State) (r : Reg) (v : Word) : (s.setFreg r v).debugMode = s.debugMode := by unfold State.setFreg; split <;> simp
@[simp] theorem State.setFreg_debugPending (s : State) (r : Reg) (v : Word) : (s.setFreg r v).debugPending = s.debugPending := by unfold State.setFreg; split <;> simp
@[simp] theorem State.setFreg_stepPhase (s : State) (r : Reg) (v : Word) : (s.setFreg r v).stepPhase = s.stepPhase := by unfold State.setFreg; split <;> simp
@[simp] theorem State.setFreg_sleeping (s : State) (r : Reg) (v : Word) : (s.setFreg r v).sleeping = s.sleeping := by unfold State.setFreg; split <;> simp
@[simp] theorem State.setFreg_elwWaiting (s : State) (r : Reg) (v : Word) : (s.setFreg r v).elwWaiting = s.elwWaiting := by unfold State.setFreg; split <;> simp
@[simp] theorem State.setFreg_fetchEnabled (s : State) (r : Reg) (v : Word) : (s.setFreg r v).fetchEnabled = s.fetchEnabled := by unfold State.setFreg; split <;> simp
@[simp] theorem State.setFreg_mem (s : State) (r : Reg) (v : Word) : (s.setFreg r v).mem = s.mem := by unfold State.setFreg; split <;> simp
@[simp] theorem State.setFreg_imem (s : State) (r : Reg) (v : Word) : (s.setFreg r v).imem = s.imem := by unfold State.setFreg; split <;> simp
@[simp] theorem State.setFreg_stale (s : State) (r : Reg) (v : Word) : (s.setFreg r v).stale = s.stale := by unfold State.setFreg; split <;> simp
@[simp] theorem State.setFreg_irq (s : State) (r : Reg) (v : Word) : (s.setFreg r v).irq = s.irq := by unfold State.setFreg; split <;> simp
@[simp] theorem State.setFreg_debugReq (s : State) (r : Reg) (v : Word) : (s.setFreg r v).debugReq = s.debugReq := by unfold State.setFreg; split <;> simp
@[simp] theorem State.setFreg_fetchEnablePin (s : State) (r : Reg) (v : Word) : (s.setFreg r v).fetchEnablePin = s.fetchEnablePin := by unfold State.setFreg; split <;> simp
@[simp] theorem State.setFreg_pulpClockEn (s : State) (r : Reg) (v : Word) : (s.setFreg r v).pulpClockEn = s.pulpClockEn := by unfold State.setFreg; split <;> simp
@[simp] theorem State.setFreg_dataStall (s : State) (r : Reg) (v : Word) : (s.setFreg r v).dataStall = s.dataStall := by unfold State.setFreg; split <;> simp
@[simp] theorem State.setFreg_irqAck (s : State) (r : Reg) (v : Word) : (s.setFreg r v).irqAck = s.irqAck := by unfold State.setFreg; split <;> simp
@[simp] theorem State.setFreg_draws (s : State) (r : Reg) (v : Word) : (s.setFreg r v).draws = s.draws := by unfold State.setFreg; split <;> simp

/-! `accrue` -/

@[simp] theorem State.accrue_cfg (s : State) (fl : BitVec 5) : (s.accrue fl).cfg = s.cfg := rfl
@[simp] theorem State.accrue_x (s : State) (fl : BitVec 5) : (s.accrue fl).x = s.x := rfl
@[simp] theorem State.accrue_f (s : State) (fl : BitVec 5) : (s.accrue fl).f = s.f := rfl
@[simp] theorem State.accrue_pc (s : State) (fl : BitVec 5) : (s.accrue fl).pc = s.pc := rfl
@[simp] theorem State.accrue_frm (s : State) (fl : BitVec 5) : (s.accrue fl).frm = s.frm := rfl
@[simp] theorem State.accrue_mstatus (s : State) (fl : BitVec 5) : (s.accrue fl).mstatus = s.mstatus := rfl
@[simp] theorem State.accrue_mie (s : State) (fl : BitVec 5) : (s.accrue fl).mie = s.mie := rfl
@[simp] theorem State.accrue_mtvec (s : State) (fl : BitVec 5) : (s.accrue fl).mtvec = s.mtvec := rfl
@[simp] theorem State.accrue_mscratch (s : State) (fl : BitVec 5) : (s.accrue fl).mscratch = s.mscratch := rfl
@[simp] theorem State.accrue_mepc (s : State) (fl : BitVec 5) : (s.accrue fl).mepc = s.mepc := rfl
@[simp] theorem State.accrue_mcause (s : State) (fl : BitVec 5) : (s.accrue fl).mcause = s.mcause := rfl
@[simp] theorem State.accrue_tdata1 (s : State) (fl : BitVec 5) : (s.accrue fl).tdata1 = s.tdata1 := rfl
@[simp] theorem State.accrue_tdata2 (s : State) (fl : BitVec 5) : (s.accrue fl).tdata2 = s.tdata2 := rfl
@[simp] theorem State.accrue_dcsr (s : State) (fl : BitVec 5) : (s.accrue fl).dcsr = s.dcsr := rfl
@[simp] theorem State.accrue_dpc (s : State) (fl : BitVec 5) : (s.accrue fl).dpc = s.dpc := rfl
@[simp] theorem State.accrue_dscratch0 (s : State) (fl : BitVec 5) : (s.accrue fl).dscratch0 = s.dscratch0 := rfl
@[simp] theorem State.accrue_dscratch1 (s : State) (fl : BitVec 5) : (s.accrue fl).dscratch1 = s.dscratch1 := rfl
@[simp] theorem State.accrue_loop0 (s : State) (fl : BitVec 5) : (s.accrue fl).loop0 = s.loop0 := rfl
@[simp] theorem State.accrue_loop1 (s : State) (fl : BitVec 5) : (s.accrue fl).loop1 = s.loop1 := rfl
@[simp] theorem State.accrue_mcountinhibit (s : State) (fl : BitVec 5) : (s.accrue fl).mcountinhibit = s.mcountinhibit := rfl
@[simp] theorem State.accrue_mcycle (s : State) (fl : BitVec 5) : (s.accrue fl).mcycle = s.mcycle := rfl
@[simp] theorem State.accrue_minstret (s : State) (fl : BitVec 5) : (s.accrue fl).minstret = s.minstret := rfl
@[simp] theorem State.accrue_hpmEvent (s : State) (fl : BitVec 5) : (s.accrue fl).hpmEvent = s.hpmEvent := rfl
@[simp] theorem State.accrue_hpmCounter (s : State) (fl : BitVec 5) : (s.accrue fl).hpmCounter = s.hpmCounter := rfl
@[simp] theorem State.accrue_debugMode (s : State) (fl : BitVec 5) : (s.accrue fl).debugMode = s.debugMode := rfl
@[simp] theorem State.accrue_debugPending (s : State) (fl : BitVec 5) : (s.accrue fl).debugPending = s.debugPending := rfl
@[simp] theorem State.accrue_stepPhase (s : State) (fl : BitVec 5) : (s.accrue fl).stepPhase = s.stepPhase := rfl
@[simp] theorem State.accrue_sleeping (s : State) (fl : BitVec 5) : (s.accrue fl).sleeping = s.sleeping := rfl
@[simp] theorem State.accrue_elwWaiting (s : State) (fl : BitVec 5) : (s.accrue fl).elwWaiting = s.elwWaiting := rfl
@[simp] theorem State.accrue_fetchEnabled (s : State) (fl : BitVec 5) : (s.accrue fl).fetchEnabled = s.fetchEnabled := rfl
@[simp] theorem State.accrue_mem (s : State) (fl : BitVec 5) : (s.accrue fl).mem = s.mem := rfl
@[simp] theorem State.accrue_imem (s : State) (fl : BitVec 5) : (s.accrue fl).imem = s.imem := rfl
@[simp] theorem State.accrue_stale (s : State) (fl : BitVec 5) : (s.accrue fl).stale = s.stale := rfl
@[simp] theorem State.accrue_irq (s : State) (fl : BitVec 5) : (s.accrue fl).irq = s.irq := rfl
@[simp] theorem State.accrue_debugReq (s : State) (fl : BitVec 5) : (s.accrue fl).debugReq = s.debugReq := rfl
@[simp] theorem State.accrue_fetchEnablePin (s : State) (fl : BitVec 5) : (s.accrue fl).fetchEnablePin = s.fetchEnablePin := rfl
@[simp] theorem State.accrue_pulpClockEn (s : State) (fl : BitVec 5) : (s.accrue fl).pulpClockEn = s.pulpClockEn := rfl
@[simp] theorem State.accrue_dataStall (s : State) (fl : BitVec 5) : (s.accrue fl).dataStall = s.dataStall := rfl
@[simp] theorem State.accrue_irqAck (s : State) (fl : BitVec 5) : (s.accrue fl).irqAck = s.irqAck := rfl
@[simp] theorem State.accrue_draws (s : State) (fl : BitVec 5) : (s.accrue fl).draws = s.draws := rfl

/-! `markDirty` -/

@[simp] theorem State.markDirty_cfg (s : State) : (s.markDirty).cfg = s.cfg := by unfold State.markDirty; split <;> rfl
@[simp] theorem State.markDirty_x (s : State) : (s.markDirty).x = s.x := by unfold State.markDirty; split <;> rfl
@[simp] theorem State.markDirty_f (s : State) : (s.markDirty).f = s.f := by unfold State.markDirty; split <;> rfl
@[simp] theorem State.markDirty_pc (s : State) : (s.markDirty).pc = s.pc := by unfold State.markDirty; split <;> rfl
@[simp] theorem State.markDirty_fflags (s : State) : (s.markDirty).fflags = s.fflags := by unfold State.markDirty; split <;> rfl
@[simp] theorem State.markDirty_frm (s : State) : (s.markDirty).frm = s.frm := by unfold State.markDirty; split <;> rfl
@[simp] theorem State.markDirty_mie (s : State) : (s.markDirty).mie = s.mie := by unfold State.markDirty; split <;> rfl
@[simp] theorem State.markDirty_mtvec (s : State) : (s.markDirty).mtvec = s.mtvec := by unfold State.markDirty; split <;> rfl
@[simp] theorem State.markDirty_mscratch (s : State) : (s.markDirty).mscratch = s.mscratch := by unfold State.markDirty; split <;> rfl
@[simp] theorem State.markDirty_mepc (s : State) : (s.markDirty).mepc = s.mepc := by unfold State.markDirty; split <;> rfl
@[simp] theorem State.markDirty_mcause (s : State) : (s.markDirty).mcause = s.mcause := by unfold State.markDirty; split <;> rfl
@[simp] theorem State.markDirty_tdata1 (s : State) : (s.markDirty).tdata1 = s.tdata1 := by unfold State.markDirty; split <;> rfl
@[simp] theorem State.markDirty_tdata2 (s : State) : (s.markDirty).tdata2 = s.tdata2 := by unfold State.markDirty; split <;> rfl
@[simp] theorem State.markDirty_dcsr (s : State) : (s.markDirty).dcsr = s.dcsr := by unfold State.markDirty; split <;> rfl
@[simp] theorem State.markDirty_dpc (s : State) : (s.markDirty).dpc = s.dpc := by unfold State.markDirty; split <;> rfl
@[simp] theorem State.markDirty_dscratch0 (s : State) : (s.markDirty).dscratch0 = s.dscratch0 := by unfold State.markDirty; split <;> rfl
@[simp] theorem State.markDirty_dscratch1 (s : State) : (s.markDirty).dscratch1 = s.dscratch1 := by unfold State.markDirty; split <;> rfl
@[simp] theorem State.markDirty_loop0 (s : State) : (s.markDirty).loop0 = s.loop0 := by unfold State.markDirty; split <;> rfl
@[simp] theorem State.markDirty_loop1 (s : State) : (s.markDirty).loop1 = s.loop1 := by unfold State.markDirty; split <;> rfl
@[simp] theorem State.markDirty_mcountinhibit (s : State) : (s.markDirty).mcountinhibit = s.mcountinhibit := by unfold State.markDirty; split <;> rfl
@[simp] theorem State.markDirty_mcycle (s : State) : (s.markDirty).mcycle = s.mcycle := by unfold State.markDirty; split <;> rfl
@[simp] theorem State.markDirty_minstret (s : State) : (s.markDirty).minstret = s.minstret := by unfold State.markDirty; split <;> rfl
@[simp] theorem State.markDirty_hpmEvent (s : State) : (s.markDirty).hpmEvent = s.hpmEvent := by unfold State.markDirty; split <;> rfl
@[simp] theorem State.markDirty_hpmCounter (s : State) : (s.markDirty).hpmCounter = s.hpmCounter := by unfold State.markDirty; split <;> rfl
@[simp] theorem State.markDirty_debugMode (s : State) : (s.markDirty).debugMode = s.debugMode := by unfold State.markDirty; split <;> rfl
@[simp] theorem State.markDirty_debugPending (s : State) : (s.markDirty).debugPending = s.debugPending := by unfold State.markDirty; split <;> rfl
@[simp] theorem State.markDirty_stepPhase (s : State) : (s.markDirty).stepPhase = s.stepPhase := by unfold State.markDirty; split <;> rfl
@[simp] theorem State.markDirty_sleeping (s : State) : (s.markDirty).sleeping = s.sleeping := by unfold State.markDirty; split <;> rfl
@[simp] theorem State.markDirty_elwWaiting (s : State) : (s.markDirty).elwWaiting = s.elwWaiting := by unfold State.markDirty; split <;> rfl
@[simp] theorem State.markDirty_fetchEnabled (s : State) : (s.markDirty).fetchEnabled = s.fetchEnabled := by unfold State.markDirty; split <;> rfl
@[simp] theorem State.markDirty_mem (s : State) : (s.markDirty).mem = s.mem := by unfold State.markDirty; split <;> rfl
@[simp] theorem State.markDirty_imem (s : State) : (s.markDirty).imem = s.imem := by unfold State.markDirty; split <;> rfl
@[simp] theorem State.markDirty_stale (s : State) : (s.markDirty).stale = s.stale := by unfold State.markDirty; split <;> rfl
@[simp] theorem State.markDirty_irq (s : State) : (s.markDirty).irq = s.irq := by unfold State.markDirty; split <;> rfl
@[simp] theorem State.markDirty_debugReq (s : State) : (s.markDirty).debugReq = s.debugReq := by unfold State.markDirty; split <;> rfl
@[simp] theorem State.markDirty_fetchEnablePin (s : State) : (s.markDirty).fetchEnablePin = s.fetchEnablePin := by unfold State.markDirty; split <;> rfl
@[simp] theorem State.markDirty_pulpClockEn (s : State) : (s.markDirty).pulpClockEn = s.pulpClockEn := by unfold State.markDirty; split <;> rfl
@[simp] theorem State.markDirty_dataStall (s : State) : (s.markDirty).dataStall = s.dataStall := by unfold State.markDirty; split <;> rfl
@[simp] theorem State.markDirty_irqAck (s : State) : (s.markDirty).irqAck = s.irqAck := by unfold State.markDirty; split <;> rfl
@[simp] theorem State.markDirty_draws (s : State) : (s.markDirty).draws = s.draws := by unfold State.markDirty; split <;> rfl

/-! `keepOld` -/

@[simp] theorem State.keepOld_cfg (s : State) (a : Word) : (s.keepOld a).cfg = s.cfg := by unfold State.keepOld; split <;> rfl
@[simp] theorem State.keepOld_x (s : State) (a : Word) : (s.keepOld a).x = s.x := by unfold State.keepOld; split <;> rfl
@[simp] theorem State.keepOld_f (s : State) (a : Word) : (s.keepOld a).f = s.f := by unfold State.keepOld; split <;> rfl
@[simp] theorem State.keepOld_pc (s : State) (a : Word) : (s.keepOld a).pc = s.pc := by unfold State.keepOld; split <;> rfl
@[simp] theorem State.keepOld_fflags (s : State) (a : Word) : (s.keepOld a).fflags = s.fflags := by unfold State.keepOld; split <;> rfl
@[simp] theorem State.keepOld_frm (s : State) (a : Word) : (s.keepOld a).frm = s.frm := by unfold State.keepOld; split <;> rfl
@[simp] theorem State.keepOld_mstatus (s : State) (a : Word) : (s.keepOld a).mstatus = s.mstatus := by unfold State.keepOld; split <;> rfl
@[simp] theorem State.keepOld_mie (s : State) (a : Word) : (s.keepOld a).mie = s.mie := by unfold State.keepOld; split <;> rfl
@[simp] theorem State.keepOld_mtvec (s : State) (a : Word) : (s.keepOld a).mtvec = s.mtvec := by unfold State.keepOld; split <;> rfl
@[simp] theorem State.keepOld_mscratch (s : State) (a : Word) : (s.keepOld a).mscratch = s.mscratch := by unfold State.keepOld; split <;> rfl
@[simp] theorem State.keepOld_mepc (s : State) (a : Word) : (s.keepOld a).mepc = s.mepc := by unfold State.keepOld; split <;> rfl
@[simp] theorem State.keepOld_mcause (s : State) (a : Word) : (s.keepOld a).mcause = s.mcause := by unfold State.keepOld; split <;> rfl
@[simp] theorem State.keepOld_tdata1 (s : State) (a : Word) : (s.keepOld a).tdata1 = s.tdata1 := by unfold State.keepOld; split <;> rfl
@[simp] theorem State.keepOld_tdata2 (s : State) (a : Word) : (s.keepOld a).tdata2 = s.tdata2 := by unfold State.keepOld; split <;> rfl
@[simp] theorem State.keepOld_dcsr (s : State) (a : Word) : (s.keepOld a).dcsr = s.dcsr := by unfold State.keepOld; split <;> rfl
@[simp] theorem State.keepOld_dpc (s : State) (a : Word) : (s.keepOld a).dpc = s.dpc := by unfold State.keepOld; split <;> rfl
@[simp] theorem State.keepOld_dscratch0 (s : State) (a : Word) : (s.keepOld a).dscratch0 = s.dscratch0 := by unfold State.keepOld; split <;> rfl
@[simp] theorem State.keepOld_dscratch1 (s : State) (a : Word) : (s.keepOld a).dscratch1 = s.dscratch1 := by unfold State.keepOld; split <;> rfl
@[simp] theorem State.keepOld_loop0 (s : State) (a : Word) : (s.keepOld a).loop0 = s.loop0 := by unfold State.keepOld; split <;> rfl
@[simp] theorem State.keepOld_loop1 (s : State) (a : Word) : (s.keepOld a).loop1 = s.loop1 := by unfold State.keepOld; split <;> rfl
@[simp] theorem State.keepOld_mcountinhibit (s : State) (a : Word) : (s.keepOld a).mcountinhibit = s.mcountinhibit := by unfold State.keepOld; split <;> rfl
@[simp] theorem State.keepOld_mcycle (s : State) (a : Word) : (s.keepOld a).mcycle = s.mcycle := by unfold State.keepOld; split <;> rfl
@[simp] theorem State.keepOld_minstret (s : State) (a : Word) : (s.keepOld a).minstret = s.minstret := by unfold State.keepOld; split <;> rfl
@[simp] theorem State.keepOld_hpmEvent (s : State) (a : Word) : (s.keepOld a).hpmEvent = s.hpmEvent := by unfold State.keepOld; split <;> rfl
@[simp] theorem State.keepOld_hpmCounter (s : State) (a : Word) : (s.keepOld a).hpmCounter = s.hpmCounter := by unfold State.keepOld; split <;> rfl
@[simp] theorem State.keepOld_debugMode (s : State) (a : Word) : (s.keepOld a).debugMode = s.debugMode := by unfold State.keepOld; split <;> rfl
@[simp] theorem State.keepOld_debugPending (s : State) (a : Word) : (s.keepOld a).debugPending = s.debugPending := by unfold State.keepOld; split <;> rfl
@[simp] theorem State.keepOld_stepPhase (s : State) (a : Word) : (s.keepOld a).stepPhase = s.stepPhase := by unfold State.keepOld; split <;> rfl
@[simp] theorem State.keepOld_sleeping (s : State) (a : Word) : (s.keepOld a).sleeping = s.sleeping := by unfold State.keepOld; split <;> rfl
@[simp] theorem State.keepOld_elwWaiting (s : State) (a : Word) : (s.keepOld a).elwWaiting = s.elwWaiting := by unfold State.keepOld; split <;> rfl
@[simp] theorem State.keepOld_fetchEnabled (s : State) (a : Word) : (s.keepOld a).fetchEnabled = s.fetchEnabled := by unfold State.keepOld; split <;> rfl
@[simp] theorem State.keepOld_mem (s : State) (a : Word) : (s.keepOld a).mem = s.mem := by unfold State.keepOld; split <;> rfl
@[simp] theorem State.keepOld_imem (s : State) (a : Word) : (s.keepOld a).imem = s.imem := by unfold State.keepOld; split <;> rfl
@[simp] theorem State.keepOld_irq (s : State) (a : Word) : (s.keepOld a).irq = s.irq := by unfold State.keepOld; split <;> rfl
@[simp] theorem State.keepOld_debugReq (s : State) (a : Word) : (s.keepOld a).debugReq = s.debugReq := by unfold State.keepOld; split <;> rfl
@[simp] theorem State.keepOld_fetchEnablePin (s : State) (a : Word) : (s.keepOld a).fetchEnablePin = s.fetchEnablePin := by unfold State.keepOld; split <;> rfl
@[simp] theorem State.keepOld_pulpClockEn (s : State) (a : Word) : (s.keepOld a).pulpClockEn = s.pulpClockEn := by unfold State.keepOld; split <;> rfl
@[simp] theorem State.keepOld_dataStall (s : State) (a : Word) : (s.keepOld a).dataStall = s.dataStall := by unfold State.keepOld; split <;> rfl
@[simp] theorem State.keepOld_irqAck (s : State) (a : Word) : (s.keepOld a).irqAck = s.irqAck := by unfold State.keepOld; split <;> rfl
@[simp] theorem State.keepOld_draws (s : State) (a : Word) : (s.keepOld a).draws = s.draws := by unfold State.keepOld; split <;> rfl

/-! `noteWord` -/

@[simp] theorem State.noteWord_cfg (s : State) (a : Word) : (s.noteWord a).cfg = s.cfg := by unfold State.noteWord; split <;> simp
@[simp] theorem State.noteWord_x (s : State) (a : Word) : (s.noteWord a).x = s.x := by unfold State.noteWord; split <;> simp
@[simp] theorem State.noteWord_f (s : State) (a : Word) : (s.noteWord a).f = s.f := by unfold State.noteWord; split <;> simp
@[simp] theorem State.noteWord_pc (s : State) (a : Word) : (s.noteWord a).pc = s.pc := by unfold State.noteWord; split <;> simp
@[simp] theorem State.noteWord_fflags (s : State) (a : Word) : (s.noteWord a).fflags = s.fflags := by unfold State.noteWord; split <;> simp
@[simp] theorem State.noteWord_frm (s : State) (a : Word) : (s.noteWord a).frm = s.frm := by unfold State.noteWord; split <;> simp
@[simp] theorem State.noteWord_mstatus (s : State) (a : Word) : (s.noteWord a).mstatus = s.mstatus := by unfold State.noteWord; split <;> simp
@[simp] theorem State.noteWord_mie (s : State) (a : Word) : (s.noteWord a).mie = s.mie := by unfold State.noteWord; split <;> simp
@[simp] theorem State.noteWord_mtvec (s : State) (a : Word) : (s.noteWord a).mtvec = s.mtvec := by unfold State.noteWord; split <;> simp
@[simp] theorem State.noteWord_mscratch (s : State) (a : Word) : (s.noteWord a).mscratch = s.mscratch := by unfold State.noteWord; split <;> simp
@[simp] theorem State.noteWord_mepc (s : State) (a : Word) : (s.noteWord a).mepc = s.mepc := by unfold State.noteWord; split <;> simp
@[simp] theorem State.noteWord_mcause (s : State) (a : Word) : (s.noteWord a).mcause = s.mcause := by unfold State.noteWord; split <;> simp
@[simp] theorem State.noteWord_tdata1 (s : State) (a : Word) : (s.noteWord a).tdata1 = s.tdata1 := by unfold State.noteWord; split <;> simp
@[simp] theorem State.noteWord_tdata2 (s : State) (a : Word) : (s.noteWord a).tdata2 = s.tdata2 := by unfold State.noteWord; split <;> simp
@[simp] theorem State.noteWord_dcsr (s : State) (a : Word) : (s.noteWord a).dcsr = s.dcsr := by unfold State.noteWord; split <;> simp
@[simp] theorem State.noteWord_dpc (s : State) (a : Word) : (s.noteWord a).dpc = s.dpc := by unfold State.noteWord; split <;> simp
@[simp] theorem State.noteWord_dscratch0 (s : State) (a : Word) : (s.noteWord a).dscratch0 = s.dscratch0 := by unfold State.noteWord; split <;> simp
@[simp] theorem State.noteWord_dscratch1 (s : State) (a : Word) : (s.noteWord a).dscratch1 = s.dscratch1 := by unfold State.noteWord; split <;> simp
@[simp] theorem State.noteWord_loop0 (s : State) (a : Word) : (s.noteWord a).loop0 = s.loop0 := by unfold State.noteWord; split <;> simp
@[simp] theorem State.noteWord_loop1 (s : State) (a : Word) : (s.noteWord a).loop1 = s.loop1 := by unfold State.noteWord; split <;> simp
@[simp] theorem State.noteWord_mcountinhibit (s : State) (a : Word) : (s.noteWord a).mcountinhibit = s.mcountinhibit := by unfold State.noteWord; split <;> simp
@[simp] theorem State.noteWord_mcycle (s : State) (a : Word) : (s.noteWord a).mcycle = s.mcycle := by unfold State.noteWord; split <;> simp
@[simp] theorem State.noteWord_minstret (s : State) (a : Word) : (s.noteWord a).minstret = s.minstret := by unfold State.noteWord; split <;> simp
@[simp] theorem State.noteWord_hpmEvent (s : State) (a : Word) : (s.noteWord a).hpmEvent = s.hpmEvent := by unfold State.noteWord; split <;> simp
@[simp] theorem State.noteWord_hpmCounter (s : State) (a : Word) : (s.noteWord a).hpmCounter = s.hpmCounter := by unfold State.noteWord; split <;> simp
@[simp] theorem State.noteWord_debugMode (s : State) (a : Word) : (s.noteWord a).debugMode = s.debugMode := by unfold State.noteWord; split <;> simp
@[simp] theorem State.noteWord_debugPending (s : State) (a : Word) : (s.noteWord a).debugPending = s.debugPending := by unfold State.noteWord; split <;> simp
@[simp] theorem State.noteWord_stepPhase (s : State) (a : Word) : (s.noteWord a).stepPhase = s.stepPhase := by unfold State.noteWord; split <;> simp
@[simp] theorem State.noteWord_sleeping (s : State) (a : Word) : (s.noteWord a).sleeping = s.sleeping := by unfold State.noteWord; split <;> simp
@[simp] theorem State.noteWord_elwWaiting (s : State) (a : Word) : (s.noteWord a).elwWaiting = s.elwWaiting := by unfold State.noteWord; split <;> simp
@[simp] theorem State.noteWord_fetchEnabled (s : State) (a : Word) : (s.noteWord a).fetchEnabled = s.fetchEnabled := by unfold State.noteWord; split <;> simp
@[simp] theorem State.noteWord_mem (s : State) (a : Word) : (s.noteWord a).mem = s.mem := by unfold State.noteWord; split <;> simp
@[simp] theorem State.noteWord_imem (s : State) (a : Word) : (s.noteWord a).imem = s.imem := by unfold State.noteWord; split <;> simp
@[simp] theorem State.noteWord_irq (s : State) (a : Word) : (s.noteWord a).irq = s.irq := by unfold State.noteWord; split <;> simp
@[simp] theorem State.noteWord_debugReq (s : State) (a : Word) : (s.noteWord a).debugReq = s.debugReq := by unfold State.noteWord; split <;> simp
@[simp] theorem State.noteWord_fetchEnablePin (s : State) (a : Word) : (s.noteWord a).fetchEnablePin = s.fetchEnablePin := by unfold State.noteWord; split <;> simp
@[simp] theorem State.noteWord_pulpClockEn (s : State) (a : Word) : (s.noteWord a).pulpClockEn = s.pulpClockEn := by unfold State.noteWord; split <;> simp
@[simp] theorem State.noteWord_dataStall (s : State) (a : Word) : (s.noteWord a).dataStall = s.dataStall := by unfold State.noteWord; split <;> simp
@[simp] theorem State.noteWord_irqAck (s : State) (a : Word) : (s.noteWord a).irqAck = s.irqAck := by unfold State.noteWord; split <;> simp
@[simp] theorem State.noteWord_draws (s : State) (a : Word) : (s.noteWord a).draws = s.draws := by unfold State.noteWord; split <;> simp

/-! `noteWords` -/

@[simp] theorem State.noteWords_cfg (s : State) (a n : Word) : (s.noteWords a n).cfg = s.cfg := by unfold State.noteWords; split <;> simp
@[simp] theorem State.noteWords_x (s : State) (a n : Word) : (s.noteWords a n).x = s.x := by unfold State.noteWords; split <;> simp
@[simp] theorem State.noteWords_f (s : State) (a n : Word) : (s.noteWords a n).f = s.f := by unfold State.noteWords; split <;> simp
@[simp] theorem State.noteWords_pc (s : State) (a n : Word) : (s.noteWords a n).pc = s.pc := by unfold State.noteWords; split <;> simp
@[simp] theorem State.noteWords_fflags (s : State) (a n : Word) : (s.noteWords a n).fflags = s.fflags := by unfold State.noteWords; split <;> simp
@[simp] theorem State.noteWords_frm (s : State) (a n : Word) : (s.noteWords a n).frm = s.frm := by unfold State.noteWords; split <;> simp
@[simp] theorem State.noteWords_mstatus (s : State) (a n : Word) : (s.noteWords a n).mstatus = s.mstatus := by unfold State.noteWords; split <;> simp
@[simp] theorem State.noteWords_mie (s : State) (a n : Word) : (s.noteWords a n).mie = s.mie := by unfold State.noteWords; split <;> simp
@[simp] theorem State.noteWords_mtvec (s : State) (a n : Word) : (s.noteWords a n).mtvec = s.mtvec := by unfold State.noteWords; split <;> simp
@[simp] theorem State.noteWords_mscratch (s : State) (a n : Word) : (s.noteWords a n).mscratch = s.mscratch := by unfold State.noteWords; split <;> simp
@[simp] theorem State.noteWords_mepc (s : State) (a n : Word) : (s.noteWords a n).mepc = s.mepc := by unfold State.noteWords; split <;> simp
@[simp] theorem State.noteWords_mcause (s : State) (a n : Word) : (s.noteWords a n).mcause = s.mcause := by unfold State.noteWords; split <;> simp
@[simp] theorem State.noteWords_tdata1 (s : State) (a n : Word) : (s.noteWords a n).tdata1 = s.tdata1 := by unfold State.noteWords; split <;> simp
@[simp] theorem State.noteWords_tdata2 (s : State) (a n : Word) : (s.noteWords a n).tdata2 = s.tdata2 := by unfold State.noteWords; split <;> simp
@[simp] theorem State.noteWords_dcsr (s : State) (a n : Word) : (s.noteWords a n).dcsr = s.dcsr := by unfold State.noteWords; split <;> simp
@[simp] theorem State.noteWords_dpc (s : State) (a n : Word) : (s.noteWords a n).dpc = s.dpc := by unfold State.noteWords; split <;> simp
@[simp] theorem State.noteWords_dscratch0 (s : State) (a n : Word) : (s.noteWords a n).dscratch0 = s.dscratch0 := by unfold State.noteWords; split <;> simp
@[simp] theorem State.noteWords_dscratch1 (s : State) (a n : Word) : (s.noteWords a n).dscratch1 = s.dscratch1 := by unfold State.noteWords; split <;> simp
@[simp] theorem State.noteWords_loop0 (s : State) (a n : Word) : (s.noteWords a n).loop0 = s.loop0 := by unfold State.noteWords; split <;> simp
@[simp] theorem State.noteWords_loop1 (s : State) (a n : Word) : (s.noteWords a n).loop1 = s.loop1 := by unfold State.noteWords; split <;> simp
@[simp] theorem State.noteWords_mcountinhibit (s : State) (a n : Word) : (s.noteWords a n).mcountinhibit = s.mcountinhibit := by unfold State.noteWords; split <;> simp
@[simp] theorem State.noteWords_mcycle (s : State) (a n : Word) : (s.noteWords a n).mcycle = s.mcycle := by unfold State.noteWords; split <;> simp
@[simp] theorem State.noteWords_minstret (s : State) (a n : Word) : (s.noteWords a n).minstret = s.minstret := by unfold State.noteWords; split <;> simp
@[simp] theorem State.noteWords_hpmEvent (s : State) (a n : Word) : (s.noteWords a n).hpmEvent = s.hpmEvent := by unfold State.noteWords; split <;> simp
@[simp] theorem State.noteWords_hpmCounter (s : State) (a n : Word) : (s.noteWords a n).hpmCounter = s.hpmCounter := by unfold State.noteWords; split <;> simp
@[simp] theorem State.noteWords_debugMode (s : State) (a n : Word) : (s.noteWords a n).debugMode = s.debugMode := by unfold State.noteWords; split <;> simp
@[simp] theorem State.noteWords_debugPending (s : State) (a n : Word) : (s.noteWords a n).debugPending = s.debugPending := by unfold State.noteWords; split <;> simp
@[simp] theorem State.noteWords_stepPhase (s : State) (a n : Word) : (s.noteWords a n).stepPhase = s.stepPhase := by unfold State.noteWords; split <;> simp
@[simp] theorem State.noteWords_sleeping (s : State) (a n : Word) : (s.noteWords a n).sleeping = s.sleeping := by unfold State.noteWords; split <;> simp
@[simp] theorem State.noteWords_elwWaiting (s : State) (a n : Word) : (s.noteWords a n).elwWaiting = s.elwWaiting := by unfold State.noteWords; split <;> simp
@[simp] theorem State.noteWords_fetchEnabled (s : State) (a n : Word) : (s.noteWords a n).fetchEnabled = s.fetchEnabled := by unfold State.noteWords; split <;> simp
@[simp] theorem State.noteWords_mem (s : State) (a n : Word) : (s.noteWords a n).mem = s.mem := by unfold State.noteWords; split <;> simp
@[simp] theorem State.noteWords_imem (s : State) (a n : Word) : (s.noteWords a n).imem = s.imem := by unfold State.noteWords; split <;> simp
@[simp] theorem State.noteWords_irq (s : State) (a n : Word) : (s.noteWords a n).irq = s.irq := by unfold State.noteWords; split <;> simp
@[simp] theorem State.noteWords_debugReq (s : State) (a n : Word) : (s.noteWords a n).debugReq = s.debugReq := by unfold State.noteWords; split <;> simp
@[simp] theorem State.noteWords_fetchEnablePin (s : State) (a n : Word) : (s.noteWords a n).fetchEnablePin = s.fetchEnablePin := by unfold State.noteWords; split <;> simp
@[simp] theorem State.noteWords_pulpClockEn (s : State) (a n : Word) : (s.noteWords a n).pulpClockEn = s.pulpClockEn := by unfold State.noteWords; split <;> simp
@[simp] theorem State.noteWords_dataStall (s : State) (a n : Word) : (s.noteWords a n).dataStall = s.dataStall := by unfold State.noteWords; split <;> simp
@[simp] theorem State.noteWords_irqAck (s : State) (a n : Word) : (s.noteWords a n).irqAck = s.irqAck := by unfold State.noteWords; split <;> simp
@[simp] theorem State.noteWords_draws (s : State) (a n : Word) : (s.noteWords a n).draws = s.draws := by unfold State.noteWords; split <;> simp

/-! `storeByte` -/

@[simp] theorem State.storeByte_cfg (s : State) (a : Word) (v : Byte) : (s.storeByte a v).cfg = s.cfg := by simp [State.storeByte]
@[simp] theorem State.storeByte_x (s : State) (a : Word) (v : Byte) : (s.storeByte a v).x = s.x := by simp [State.storeByte]
@[simp] theorem State.storeByte_f (s : State) (a : Word) (v : Byte) : (s.storeByte a v).f = s.f := by simp [State.storeByte]
@[simp] theorem State.storeByte_pc (s : State) (a : Word) (v : Byte) : (s.storeByte a v).pc = s.pc := by simp [State.storeByte]
@[simp] theorem State.storeByte_fflags (s : State) (a : Word) (v : Byte) : (s.storeByte a v).fflags = s.fflags := by simp [State.storeByte]
@[simp] theorem State.storeByte_frm (s : State) (a : Word) (v : Byte) : (s.storeByte a v).frm = s.frm := by simp [State.storeByte]
@[simp] theorem State.storeByte_mstatus (s : State) (a : Word) (v : Byte) : (s.storeByte a v).mstatus = s.mstatus := by simp [State.storeByte]
@[simp] theorem State.storeByte_mie (s : State) (a : Word) (v : Byte) : (s.storeByte a v).mie = s.mie := by simp [State.storeByte]
@[simp] theorem State.storeByte_mtvec (s : State) (a : Word) (v : Byte) : (s.storeByte a v).mtvec = s.mtvec := by simp [State.storeByte]
@[simp] theorem State.storeByte_mscratch (s : State) (a : Word) (v : Byte) : (s.storeByte a v).mscratch = s.mscratch := by simp [State.storeByte]
@[simp] theorem State.storeByte_mepc (s : State) (a : Word) (v : Byte) : (s.storeByte a v).mepc = s.mepc := by simp [State.storeByte]
@[simp] theorem State.storeByte_mcause (s : State) (a : Word) (v : Byte) : (s.storeByte a v).mcause = s.mcause := by simp [State.storeByte]
@[simp] theorem State.storeByte_tdata1 (s : State) (a : Word) (v : Byte) : (s.storeByte a v).tdata1 = s.tdata1 := by simp [State.storeByte]
@[simp] theorem State.storeByte_tdata2 (s : State) (a : Word) (v : Byte) : (s.storeByte a v).tdata2 = s.tdata2 := by simp [State.storeByte]
@[simp] theorem State.storeByte_dcsr (s : State) (a : Word) (v : Byte) : (s.storeByte a v).dcsr = s.dcsr := by simp [State.storeByte]
@[simp] theorem State.storeByte_dpc (s : State) (a : Word) (v : Byte) : (s.storeByte a v).dpc = s.dpc := by simp [State.storeByte]
@[simp] theorem State.storeByte_dscratch0 (s : State) (a : Word) (v : Byte) : (s.storeByte a v).dscratch0 = s.dscratch0 := by simp [State.storeByte]
@[simp] theorem State.storeByte_dscratch1 (s : State) (a : Word) (v : Byte) : (s.storeByte a v).dscratch1 = s.dscratch1 := by simp [State.storeByte]
@[simp] theorem State.storeByte_loop0 (s : State) (a : Word) (v : Byte) : (s.storeByte a v).loop0 = s.loop0 := by simp [State.storeByte]
@[simp] theorem State.storeByte_loop1 (s : State) (a : Word) (v : Byte) : (s.storeByte a v).loop1 = s.loop1 := by simp [State.storeByte]
@[simp] theorem State.storeByte_mcountinhibit (s : State) (a : Word) (v : Byte) : (s.storeByte a v).mcountinhibit = s.mcountinhibit := by simp [State.storeByte]
@[simp] theorem State.storeByte_mcycle (s : State) (a : Word) (v : Byte) : (s.storeByte a v).mcycle = s.mcycle := by simp [State.storeByte]
@[simp] theorem State.storeByte_minstret (s : State) (a : Word) (v : Byte) : (s.storeByte a v).minstret = s.minstret := by simp [State.storeByte]
@[simp] theorem State.storeByte_hpmEvent (s : State) (a : Word) (v : Byte) : (s.storeByte a v).hpmEvent = s.hpmEvent := by simp [State.storeByte]
@[simp] theorem State.storeByte_hpmCounter (s : State) (a : Word) (v : Byte) : (s.storeByte a v).hpmCounter = s.hpmCounter := by simp [State.storeByte]
@[simp] theorem State.storeByte_debugMode (s : State) (a : Word) (v : Byte) : (s.storeByte a v).debugMode = s.debugMode := by simp [State.storeByte]
@[simp] theorem State.storeByte_debugPending (s : State) (a : Word) (v : Byte) : (s.storeByte a v).debugPending = s.debugPending := by simp [State.storeByte]
@[simp] theorem State.storeByte_stepPhase (s : State) (a : Word) (v : Byte) : (s.storeByte a v).stepPhase = s.stepPhase := by simp [State.storeByte]
@[simp] theorem State.storeByte_sleeping (s : State) (a : Word) (v : Byte) : (s.storeByte a v).sleeping = s.sleeping := by simp [State.storeByte]
@[simp] theorem State.storeByte_elwWaiting (s : State) (a : Word) (v : Byte) : (s.storeByte a v).elwWaiting = s.elwWaiting := by simp [State.storeByte]
@[simp] theorem State.storeByte_fetchEnabled (s : State) (a : Word) (v : Byte) : (s.storeByte a v).fetchEnabled = s.fetchEnabled := by simp [State.storeByte]
@[simp] theorem State.storeByte_imem (s : State) (a : Word) (v : Byte) : (s.storeByte a v).imem = s.imem := by simp [State.storeByte]
@[simp] theorem State.storeByte_irq (s : State) (a : Word) (v : Byte) : (s.storeByte a v).irq = s.irq := by simp [State.storeByte]
@[simp] theorem State.storeByte_debugReq (s : State) (a : Word) (v : Byte) : (s.storeByte a v).debugReq = s.debugReq := by simp [State.storeByte]
@[simp] theorem State.storeByte_fetchEnablePin (s : State) (a : Word) (v : Byte) : (s.storeByte a v).fetchEnablePin = s.fetchEnablePin := by simp [State.storeByte]
@[simp] theorem State.storeByte_pulpClockEn (s : State) (a : Word) (v : Byte) : (s.storeByte a v).pulpClockEn = s.pulpClockEn := by simp [State.storeByte]
@[simp] theorem State.storeByte_dataStall (s : State) (a : Word) (v : Byte) : (s.storeByte a v).dataStall = s.dataStall := by simp [State.storeByte]
@[simp] theorem State.storeByte_irqAck (s : State) (a : Word) (v : Byte) : (s.storeByte a v).irqAck = s.irqAck := by simp [State.storeByte]
@[simp] theorem State.storeByte_draws (s : State) (a : Word) (v : Byte) : (s.storeByte a v).draws = s.draws := by simp [State.storeByte]

/-! `storeHalf` -/

@[simp] theorem State.storeHalf_cfg (s : State) (a : Word) (v : BitVec 16) : (s.storeHalf a v).cfg = s.cfg := by simp [State.storeHalf]
@[simp] theorem State.storeHalf_x (s : State) (a : Word) (v : BitVec 16) : (s.storeHalf a v).x = s.x := by simp [State.storeHalf]
@[simp] theorem State.storeHalf_f (s : State) (a : Word) (v : BitVec 16) : (s.storeHalf a v).f = s.f := by simp [State.storeHalf]
@[simp] theorem State.storeHalf_pc (s : State) (a : Word) (v : BitVec 16) : (s.storeHalf a v).pc = s.pc := by simp [State.storeHalf]
@[simp] theorem State.storeHalf_fflags (s : State) (a : Word) (v : BitVec 16) : (s.storeHalf a v).fflags = s.fflags := by simp [State.storeHalf]
@[simp] theorem State.storeHalf_frm (s : State) (a : Word) (v : BitVec 16) : (s.storeHalf a v).frm = s.frm := by simp [State.storeHalf]
@[simp] theorem State.storeHalf_mstatus (s : State) (a : Word) (v : BitVec 16) : (s.storeHalf a v).mstatus = s.mstatus := by simp [State.storeHalf]
@[simp] theorem State.storeHalf_mie (s : State) (a : Word) (v : BitVec 16) : (s.storeHalf a v).mie = s.mie := by simp [State.storeHalf]
@[simp] theorem State.storeHalf_mtvec (s : State) (a : Word) (v : BitVec 16) : (s.storeHalf a v).mtvec = s.mtvec := by simp [State.storeHalf]
@[simp] theorem State.storeHalf_mscratch (s : State) (a : Word) (v : BitVec 16) : (s.storeHalf a v).mscratch = s.mscratch := by simp [State.storeHalf]
@[simp] theorem State.storeHalf_mepc (s : State) (a : Word) (v : BitVec 16) : (s.storeHalf a v).mepc = s.mepc := by simp [State.storeHalf]
@[simp] theorem State.storeHalf_mcause (s : State) (a : Word) (v : BitVec 16) : (s.storeHalf a v).mcause = s.mcause := by simp [State.storeHalf]
@[simp] theorem State.storeHalf_tdata1 (s : State) (a : Word) (v : BitVec 16) : (s.storeHalf a v).tdata1 = s.tdata1 := by simp [State.storeHalf]
@[simp] theorem State.storeHalf_tdata2 (s : State) (a : Word) (v : BitVec 16) : (s.storeHalf a v).tdata2 = s.tdata2 := by simp [State.storeHalf]
@[simp] theorem State.storeHalf_dcsr (s : State) (a : Word) (v : BitVec 16) : (s.storeHalf a v).dcsr = s.dcsr := by simp [State.storeHalf]
@[simp] theorem State.storeHalf_dpc (s : State) (a : Word) (v : BitVec 16) : (s.storeHalf a v).dpc = s.dpc := by simp [State.storeHalf]
@[simp] theorem State.storeHalf_dscratch0 (s : State) (a : Word) (v : BitVec 16) : (s.storeHalf a v).dscratch0 = s.dscratch0 := by simp [State.storeHalf]
@[simp] theorem State.storeHalf_dscratch1 (s : State) (a : Word) (v : BitVec 16) : (s.storeHalf a v).dscratch1 = s.dscratch1 := by simp [State.storeHalf]
@[simp] theorem State.storeHalf_loop0 (s : State) (a : Word) (v : BitVec 16) : (s.storeHalf a v).loop0 = s.loop0 := by simp [State.storeHalf]
@[simp] theorem State.storeHalf_loop1 (s : State) (a : Word) (v : BitVec 16) : (s.storeHalf a v).loop1 = s.loop1 := by simp [State.storeHalf]
@[simp] theorem State.storeHalf_mcountinhibit (s : State) (a : Word) (v : BitVec 16) : (s.storeHalf a v).mcountinhibit = s.mcountinhibit := by simp [State.storeHalf]
@[simp] theorem State.storeHalf_mcycle (s : State) (a : Word) (v : BitVec 16) : (s.storeHalf a v).mcycle = s.mcycle := by simp [State.storeHalf]
@[simp] theorem State.storeHalf_minstret (s : State) (a : Word) (v : BitVec 16) : (s.storeHalf a v).minstret = s.minstret := by simp [State.storeHalf]
@[simp] theorem State.storeHalf_hpmEvent (s : State) (a : Word) (v : BitVec 16) : (s.storeHalf a v).hpmEvent = s.hpmEvent := by simp [State.storeHalf]
@[simp] theorem State.storeHalf_hpmCounter (s : State) (a : Word) (v : BitVec 16) : (s.storeHalf a v).hpmCounter = s.hpmCounter := by simp [State.storeHalf]
@[simp] theorem State.storeHalf_debugMode (s : State) (a : Word) (v : BitVec 16) : (s.storeHalf a v).debugMode = s.debugMode := by simp [State.storeHalf]
@[simp] theorem State.storeHalf_debugPending (s : State) (a : Word) (v : BitVec 16) : (s.storeHalf a v).debugPending = s.debugPending := by simp [State.storeHalf]
@[simp] theorem State.storeHalf_stepPhase (s : State) (a : Word) (v : BitVec 16) : (s.storeHalf a v).stepPhase = s.stepPhase := by simp [State.storeHalf]
@[simp] theorem State.storeHalf_sleeping (s : State) (a : Word) (v : BitVec 16) : (s.storeHalf a v).sleeping = s.sleeping := by simp [State.storeHalf]
@[simp] theorem State.storeHalf_elwWaiting (s : State) (a : Word) (v : BitVec 16) : (s.storeHalf a v).elwWaiting = s.elwWaiting := by simp [State.storeHalf]
@[simp] theorem State.storeHalf_fetchEnabled (s : State) (a : Word) (v : BitVec 16) : (s.storeHalf a v).fetchEnabled = s.fetchEnabled := by simp [State.storeHalf]
@[simp] theorem State.storeHalf_imem (s : State) (a : Word) (v : BitVec 16) : (s.storeHalf a v).imem = s.imem := by simp [State.storeHalf]
@[simp] theorem State.storeHalf_irq (s : State) (a : Word) (v : BitVec 16) : (s.storeHalf a v).irq = s.irq := by simp [State.storeHalf]
@[simp] theorem State.storeHalf_debugReq (s : State) (a : Word) (v : BitVec 16) : (s.storeHalf a v).debugReq = s.debugReq := by simp [State.storeHalf]
@[simp] theorem State.storeHalf_fetchEnablePin (s : State) (a : Word) (v : BitVec 16) : (s.storeHalf a v).fetchEnablePin = s.fetchEnablePin := by simp [State.storeHalf]
@[simp] theorem State.storeHalf_pulpClockEn (s : State) (a : Word) (v : BitVec 16) : (s.storeHalf a v).pulpClockEn = s.pulpClockEn := by simp [State.storeHalf]
@[simp] theorem State.storeHalf_dataStall (s : State) (a : Word) (v : BitVec 16) : (s.storeHalf a v).dataStall = s.dataStall := by simp [State.storeHalf]
@[simp] theorem State.storeHalf_irqAck (s : State) (a : Word) (v : BitVec 16) : (s.storeHalf a v).irqAck = s.irqAck := by simp [State.storeHalf]
@[simp] theorem State.storeHalf_draws (s : State) (a : Word) (v : BitVec 16) : (s.storeHalf a v).draws = s.draws := by simp [State.storeHalf]

/-! `storeWord` -/

@[simp] theorem State.storeWord_cfg (s : State) (a : Word) (v : Word) : (s.storeWord a v).cfg = s.cfg := by simp [State.storeWord]
@[simp] theorem State.storeWord_x (s : State) (a : Word) (v : Word) : (s.storeWord a v).x = s.x := by simp [State.storeWord]
@[simp] theorem State.storeWord_f (s : State) (a : Word) (v : Word) : (s.storeWord a v).f = s.f := by simp [State.storeWord]
@[simp] theorem State.storeWord_pc (s : State) (a : Word) (v : Word) : (s.storeWord a v).pc = s.pc := by simp [State.storeWord]
@[simp] theorem State.storeWord_fflags (s : State) (a : Word) (v : Word) : (s.storeWord a v).fflags = s.fflags := by simp [State.storeWord]
@[simp] theorem State.storeWord_frm (s : State) (a : Word) (v : Word) : (s.storeWord a v).frm = s.frm := by simp [State.storeWord]
@[simp] theorem State.storeWord_mstatus (s : State) (a : Word) (v : Word) : (s.storeWord a v).mstatus = s.mstatus := by simp [State.storeWord]
@[simp] theorem State.storeWord_mie (s : State) (a : Word) (v : Word) : (s.storeWord a v).mie = s.mie := by simp [State.storeWord]
@[simp] theorem State.storeWord_mtvec (s : State) (a : Word) (v : Word) : (s.storeWord a v).mtvec = s.mtvec := by simp [State.storeWord]
@[simp] theorem State.storeWord_mscratch (s : State) (a : Word) (v : Word) : (s.storeWord a v).mscratch = s.mscratch := by simp [State.storeWord]
@[simp] theorem State.storeWord_mepc (s : State) (a : Word) (v : Word) : (s.storeWord a v).mepc = s.mepc := by simp [State.storeWord]
@[simp] theorem State.storeWord_mcause (s : State) (a : Word) (v : Word) : (s.storeWord a v).mcause = s.mcause := by simp [State.storeWord]
@[simp] theorem State.storeWord_tdata1 (s : State) (a : Word) (v : Word) : (s.storeWord a v).tdata1 = s.tdata1 := by simp [State.storeWord]
@[simp] theorem State.storeWord_tdata2 (s : State) (a : Word) (v : Word) : (s.storeWord a v).tdata2 = s.tdata2 := by simp [State.storeWord]
@[simp] theorem State.storeWord_dcsr (s : State) (a : Word) (v : Word) : (s.storeWord a v).dcsr = s.dcsr := by simp [State.storeWord]
@[simp] theorem State.storeWord_dpc (s : State) (a : Word) (v : Word) : (s.storeWord a v).dpc = s.dpc := by simp [State.storeWord]
@[simp] theorem State.storeWord_dscratch0 (s : State) (a : Word) (v : Word) : (s.storeWord a v).dscratch0 = s.dscratch0 := by simp [State.storeWord]
@[simp] theorem State.storeWord_dscratch1 (s : State) (a : Word) (v : Word) : (s.storeWord a v).dscratch1 = s.dscratch1 := by simp [State.storeWord]
@[simp] theorem State.storeWord_loop0 (s : State) (a : Word) (v : Word) : (s.storeWord a v).loop0 = s.loop0 := by simp [State.storeWord]
@[simp] theorem State.storeWord_loop1 (s : State) (a : Word) (v : Word) : (s.storeWord a v).loop1 = s.loop1 := by simp [State.storeWord]
@[simp] theorem State.storeWord_mcountinhibit (s : State) (a : Word) (v : Word) : (s.storeWord a v).mcountinhibit = s.mcountinhibit := by simp [State.storeWord]
@[simp] theorem State.storeWord_mcycle (s : State) (a : Word) (v : Word) : (s.storeWord a v).mcycle = s.mcycle := by simp [State.storeWord]
@[simp] theorem State.storeWord_minstret (s : State) (a : Word) (v : Word) : (s.storeWord a v).minstret = s.minstret := by simp [State.storeWord]
@[simp] theorem State.storeWord_hpmEvent (s : State) (a : Word) (v : Word) : (s.storeWord a v).hpmEvent = s.hpmEvent := by simp [State.storeWord]
@[simp] theorem State.storeWord_hpmCounter (s : State) (a : Word) (v : Word) : (s.storeWord a v).hpmCounter = s.hpmCounter := by simp [State.storeWord]
@[simp] theorem State.storeWord_debugMode (s : State) (a : Word) (v : Word) : (s.storeWord a v).debugMode = s.debugMode := by simp [State.storeWord]
@[simp] theorem State.storeWord_debugPending (s : State) (a : Word) (v : Word) : (s.storeWord a v).debugPending = s.debugPending := by simp [State.storeWord]
@[simp] theorem State.storeWord_stepPhase (s : State) (a : Word) (v : Word) : (s.storeWord a v).stepPhase = s.stepPhase := by simp [State.storeWord]
@[simp] theorem State.storeWord_sleeping (s : State) (a : Word) (v : Word) : (s.storeWord a v).sleeping = s.sleeping := by simp [State.storeWord]
@[simp] theorem State.storeWord_elwWaiting (s : State) (a : Word) (v : Word) : (s.storeWord a v).elwWaiting = s.elwWaiting := by simp [State.storeWord]
@[simp] theorem State.storeWord_fetchEnabled (s : State) (a : Word) (v : Word) : (s.storeWord a v).fetchEnabled = s.fetchEnabled := by simp [State.storeWord]
@[simp] theorem State.storeWord_imem (s : State) (a : Word) (v : Word) : (s.storeWord a v).imem = s.imem := by simp [State.storeWord]
@[simp] theorem State.storeWord_irq (s : State) (a : Word) (v : Word) : (s.storeWord a v).irq = s.irq := by simp [State.storeWord]
@[simp] theorem State.storeWord_debugReq (s : State) (a : Word) (v : Word) : (s.storeWord a v).debugReq = s.debugReq := by simp [State.storeWord]
@[simp] theorem State.storeWord_fetchEnablePin (s : State) (a : Word) (v : Word) : (s.storeWord a v).fetchEnablePin = s.fetchEnablePin := by simp [State.storeWord]
@[simp] theorem State.storeWord_pulpClockEn (s : State) (a : Word) (v : Word) : (s.storeWord a v).pulpClockEn = s.pulpClockEn := by simp [State.storeWord]
@[simp] theorem State.storeWord_dataStall (s : State) (a : Word) (v : Word) : (s.storeWord a v).dataStall = s.dataStall := by simp [State.storeWord]
@[simp] theorem State.storeWord_irqAck (s : State) (a : Word) (v : Word) : (s.storeWord a v).irqAck = s.irqAck := by simp [State.storeWord]
@[simp] theorem State.storeWord_draws (s : State) (a : Word) (v : Word) : (s.storeWord a v).draws = s.draws := by simp [State.storeWord]

/-! `setLoop` -/

@[simp] theorem State.setLoop_cfg (s : State) (l : BitVec 1) (v : HwLoop) : (s.setLoop l v).cfg = s.cfg := by unfold State.setLoop; split <;> rfl
@[simp] theorem State.setLoop_x (s : State) (l : BitVec 1) (v : HwLoop) : (s.setLoop l v).x = s.x := by unfold State.setLoop; split <;> rfl
@[simp] theorem State.setLoop_f (s : State) (l : BitVec 1) (v : HwLoop) : (s.setLoop l v).f = s.f := by unfold State.setLoop; split <;> rfl
@[simp] theorem State.setLoop_pc (s : State) (l : BitVec 1) (v : HwLoop) : (s.setLoop l v).pc = s.pc := by unfold State.setLoop; split <;> rfl
@[simp] theorem State.setLoop_fflags (s : State) (l : BitVec 1) (v : HwLoop) : (s.setLoop l v).fflags = s.fflags := by unfold State.setLoop; split <;> rfl
@[simp] theorem State.setLoop_frm (s : State) (l : BitVec 1) (v : HwLoop) : (s.setLoop l v).frm = s.frm := by unfold State.setLoop; split <;> rfl
@[simp] theorem State.setLoop_mstatus (s : State) (l : BitVec 1) (v : HwLoop) : (s.setLoop l v).mstatus = s.mstatus := by unfold State.setLoop; split <;> rfl
@[simp] theorem State.setLoop_mie (s : State) (l : BitVec 1) (v : HwLoop) : (s.setLoop l v).mie = s.mie := by unfold State.setLoop; split <;> rfl
@[simp] theorem State.setLoop_mtvec (s : State) (l : BitVec 1) (v : HwLoop) : (s.setLoop l v).mtvec = s.mtvec := by unfold State.setLoop; split <;> rfl
@[simp] theorem State.setLoop_mscratch (s : State) (l : BitVec 1) (v : HwLoop) : (s.setLoop l v).mscratch = s.mscratch := by unfold State.setLoop; split <;> rfl
@[simp] theorem State.setLoop_mepc (s : State) (l : BitVec 1) (v : HwLoop) : (s.setLoop l v).mepc = s.mepc := by unfold State.setLoop; split <;> rfl
@[simp] theorem State.setLoop_mcause (s : State) (l : BitVec 1) (v : HwLoop) : (s.setLoop l v).mcause = s.mcause := by unfold State.setLoop; split <;> rfl
@[simp] theorem State.setLoop_tdata1 (s : State) (l : BitVec 1) (v : HwLoop) : (s.setLoop l v).tdata1 = s.tdata1 := by unfold State.setLoop; split <;> rfl
@[simp] theorem State.setLoop_tdata2 (s : State) (l : BitVec 1) (v : HwLoop) : (s.setLoop l v).tdata2 = s.tdata2 := by unfold State.setLoop; split <;> rfl
@[simp] theorem State.setLoop_dcsr (s : State) (l : BitVec 1) (v : HwLoop) : (s.setLoop l v).dcsr = s.dcsr := by unfold State.setLoop; split <;> rfl
@[simp] theorem State.setLoop_dpc (s : State) (l : BitVec 1) (v : HwLoop) : (s.setLoop l v).dpc = s.dpc := by unfold State.setLoop; split <;> rfl
@[simp] theorem State.setLoop_dscratch0 (s : State) (l : BitVec 1) (v : HwLoop) : (s.setLoop l v).dscratch0 = s.dscratch0 := by unfold State.setLoop; split <;> rfl
@[simp] theorem State.setLoop_dscratch1 (s : State) (l : BitVec 1) (v : HwLoop) : (s.setLoop l v).dscratch1 = s.dscratch1 := by unfold State.setLoop; split <;> rfl
@[simp] theorem State.setLoop_mcountinhibit (s : State) (l : BitVec 1) (v : HwLoop) : (s.setLoop l v).mcountinhibit = s.mcountinhibit := by unfold State.setLoop; split <;> rfl
@[simp] theorem State.setLoop_mcycle (s : State) (l : BitVec 1) (v : HwLoop) : (s.setLoop l v).mcycle = s.mcycle := by unfold State.setLoop; split <;> rfl
@[simp] theorem State.setLoop_minstret (s : State) (l : BitVec 1) (v : HwLoop) : (s.setLoop l v).minstret = s.minstret := by unfold State.setLoop; split <;> rfl
@[simp] theorem State.setLoop_hpmEvent (s : State) (l : BitVec 1) (v : HwLoop) : (s.setLoop l v).hpmEvent = s.hpmEvent := by unfold State.setLoop; split <;> rfl
@[simp] theorem State.setLoop_hpmCounter (s : State) (l : BitVec 1) (v : HwLoop) : (s.setLoop l v).hpmCounter = s.hpmCounter := by unfold State.setLoop; split <;> rfl
@[simp] theorem State.setLoop_debugMode (s : State) (l : BitVec 1) (v : HwLoop) : (s.setLoop l v).debugMode = s.debugMode := by unfold State.setLoop; split <;> rfl
@[simp] theorem State.setLoop_debugPending (s : State) (l : BitVec 1) (v : HwLoop) : (s.setLoop l v).debugPending = s.debugPending := by unfold State.setLoop; split <;> rfl
@[simp] theorem State.setLoop_stepPhase (s : State) (l : BitVec 1) (v : HwLoop) : (s.setLoop l v).stepPhase = s.stepPhase := by unfold State.setLoop; split <;> rfl
@[simp] theorem State.setLoop_sleeping (s : State) (l : BitVec 1) (v : HwLoop) : (s.setLoop l v).sleeping = s.sleeping := by unfold State.setLoop; split <;> rfl
@[simp] theorem State.setLoop_elwWaiting (s : State) (l : BitVec 1) (v : HwLoop) : (s.setLoop l v).elwWaiting = s.elwWaiting := by unfold State.setLoop; split <;> rfl
@[simp] theorem State.setLoop_fetchEnabled (s : State) (l : BitVec 1) (v : HwLoop) : (s.setLoop l v).fetchEnabled = s.fetchEnabled := by unfold State.setLoop; split <;> rfl
@[simp] theorem State.setLoop_mem (s : State) (l : BitVec 1) (v : HwLoop) : (s.setLoop l v).mem = s.mem := by unfold State.setLoop; split <;> rfl
@[simp] theorem State.setLoop_imem (s : State) (l : BitVec 1) (v : HwLoop) : (s.setLoop l v).imem = s.imem := by unfold State.setLoop; split <;> rfl
@[simp] theorem State.setLoop_stale (s : State) (l : BitVec 1) (v : HwLoop) : (s.setLoop l v).stale = s.stale := by unfold State.setLoop; split <;> rfl
@[simp] theorem State.setLoop_irq (s : State) (l : BitVec 1) (v : HwLoop) : (s.setLoop l v).irq = s.irq := by unfold State.setLoop; split <;> rfl
@[simp] theorem State.setLoop_debugReq (s : State) (l : BitVec 1) (v : HwLoop) : (s.setLoop l v).debugReq = s.debugReq := by unfold State.setLoop; split <;> rfl
@[simp] theorem State.setLoop_fetchEnablePin (s : State) (l : BitVec 1) (v : HwLoop) : (s.setLoop l v).fetchEnablePin = s.fetchEnablePin := by unfold State.setLoop; split <;> rfl
@[simp] theorem State.setLoop_pulpClockEn (s : State) (l : BitVec 1) (v : HwLoop) : (s.setLoop l v).pulpClockEn = s.pulpClockEn := by unfold State.setLoop; split <;> rfl
@[simp] theorem State.setLoop_dataStall (s : State) (l : BitVec 1) (v : HwLoop) : (s.setLoop l v).dataStall = s.dataStall := by unfold State.setLoop; split <;> rfl
@[simp] theorem State.setLoop_irqAck (s : State) (l : BitVec 1) (v : HwLoop) : (s.setLoop l v).irqAck = s.irqAck := by unfold State.setLoop; split <;> rfl
@[simp] theorem State.setLoop_draws (s : State) (l : BitVec 1) (v : HwLoop) : (s.setLoop l v).draws = s.draws := by unfold State.setLoop; split <;> rfl

/-! `retire` -/

@[simp] theorem State.retire_cfg (s : State) (r : Retired) (t : State) : (s.retire r t).cfg = t.cfg := by unfold State.retire; split <;> (try split) <;> rfl
@[simp] theorem State.retire_x (s : State) (r : Retired) (t : State) : (s.retire r t).x = t.x := by unfold State.retire; split <;> (try split) <;> rfl
@[simp] theorem State.retire_f (s : State) (r : Retired) (t : State) : (s.retire r t).f = t.f := by unfold State.retire; split <;> (try split) <;> rfl
@[simp] theorem State.retire_fflags (s : State) (r : Retired) (t : State) : (s.retire r t).fflags = t.fflags := by unfold State.retire; split <;> (try split) <;> rfl
@[simp] theorem State.retire_frm (s : State) (r : Retired) (t : State) : (s.retire r t).frm = t.frm := by unfold State.retire; split <;> (try split) <;> rfl
@[simp] theorem State.retire_mstatus (s : State) (r : Retired) (t : State) : (s.retire r t).mstatus = t.mstatus := by unfold State.retire; split <;> (try split) <;> rfl
@[simp] theorem State.retire_mie (s : State) (r : Retired) (t : State) : (s.retire r t).mie = t.mie := by unfold State.retire; split <;> (try split) <;> rfl
@[simp] theorem State.retire_mtvec (s : State) (r : Retired) (t : State) : (s.retire r t).mtvec = t.mtvec := by unfold State.retire; split <;> (try split) <;> rfl
@[simp] theorem State.retire_mscratch (s : State) (r : Retired) (t : State) : (s.retire r t).mscratch = t.mscratch := by unfold State.retire; split <;> (try split) <;> rfl
@[simp] theorem State.retire_mepc (s : State) (r : Retired) (t : State) : (s.retire r t).mepc = t.mepc := by unfold State.retire; split <;> (try split) <;> rfl
@[simp] theorem State.retire_mcause (s : State) (r : Retired) (t : State) : (s.retire r t).mcause = t.mcause := by unfold State.retire; split <;> (try split) <;> rfl
@[simp] theorem State.retire_tdata1 (s : State) (r : Retired) (t : State) : (s.retire r t).tdata1 = t.tdata1 := by unfold State.retire; split <;> (try split) <;> rfl
@[simp] theorem State.retire_tdata2 (s : State) (r : Retired) (t : State) : (s.retire r t).tdata2 = t.tdata2 := by unfold State.retire; split <;> (try split) <;> rfl
@[simp] theorem State.retire_dcsr (s : State) (r : Retired) (t : State) : (s.retire r t).dcsr = t.dcsr := by unfold State.retire; split <;> (try split) <;> rfl
@[simp] theorem State.retire_dpc (s : State) (r : Retired) (t : State) : (s.retire r t).dpc = t.dpc := by unfold State.retire; split <;> (try split) <;> rfl
@[simp] theorem State.retire_dscratch0 (s : State) (r : Retired) (t : State) : (s.retire r t).dscratch0 = t.dscratch0 := by unfold State.retire; split <;> (try split) <;> rfl
@[simp] theorem State.retire_dscratch1 (s : State) (r : Retired) (t : State) : (s.retire r t).dscratch1 = t.dscratch1 := by unfold State.retire; split <;> (try split) <;> rfl
@[simp] theorem State.retire_mcountinhibit (s : State) (r : Retired) (t : State) : (s.retire r t).mcountinhibit = t.mcountinhibit := by unfold State.retire; split <;> (try split) <;> rfl
@[simp] theorem State.retire_mcycle (s : State) (r : Retired) (t : State) : (s.retire r t).mcycle = t.mcycle := by unfold State.retire; split <;> (try split) <;> rfl
@[simp] theorem State.retire_hpmEvent (s : State) (r : Retired) (t : State) : (s.retire r t).hpmEvent = t.hpmEvent := by unfold State.retire; split <;> (try split) <;> rfl
@[simp] theorem State.retire_debugMode (s : State) (r : Retired) (t : State) : (s.retire r t).debugMode = t.debugMode := by unfold State.retire; split <;> (try split) <;> rfl
@[simp] theorem State.retire_debugPending (s : State) (r : Retired) (t : State) : (s.retire r t).debugPending = t.debugPending := by unfold State.retire; split <;> (try split) <;> rfl
@[simp] theorem State.retire_stepPhase (s : State) (r : Retired) (t : State) : (s.retire r t).stepPhase = t.stepPhase := by unfold State.retire; split <;> (try split) <;> rfl
@[simp] theorem State.retire_sleeping (s : State) (r : Retired) (t : State) : (s.retire r t).sleeping = t.sleeping := by unfold State.retire; split <;> (try split) <;> rfl
@[simp] theorem State.retire_elwWaiting (s : State) (r : Retired) (t : State) : (s.retire r t).elwWaiting = t.elwWaiting := by unfold State.retire; split <;> (try split) <;> rfl
@[simp] theorem State.retire_fetchEnabled (s : State) (r : Retired) (t : State) : (s.retire r t).fetchEnabled = t.fetchEnabled := by unfold State.retire; split <;> (try split) <;> rfl
@[simp] theorem State.retire_mem (s : State) (r : Retired) (t : State) : (s.retire r t).mem = t.mem := by unfold State.retire; split <;> (try split) <;> rfl
@[simp] theorem State.retire_imem (s : State) (r : Retired) (t : State) : (s.retire r t).imem = t.imem := by unfold State.retire; split <;> (try split) <;> rfl
@[simp] theorem State.retire_irq (s : State) (r : Retired) (t : State) : (s.retire r t).irq = t.irq := by unfold State.retire; split <;> (try split) <;> rfl
@[simp] theorem State.retire_debugReq (s : State) (r : Retired) (t : State) : (s.retire r t).debugReq = t.debugReq := by unfold State.retire; split <;> (try split) <;> rfl
@[simp] theorem State.retire_fetchEnablePin (s : State) (r : Retired) (t : State) : (s.retire r t).fetchEnablePin = t.fetchEnablePin := by unfold State.retire; split <;> (try split) <;> rfl
@[simp] theorem State.retire_pulpClockEn (s : State) (r : Retired) (t : State) : (s.retire r t).pulpClockEn = t.pulpClockEn := by unfold State.retire; split <;> (try split) <;> rfl
@[simp] theorem State.retire_dataStall (s : State) (r : Retired) (t : State) : (s.retire r t).dataStall = t.dataStall := by unfold State.retire; split <;> (try split) <;> rfl
@[simp] theorem State.retire_irqAck (s : State) (r : Retired) (t : State) : (s.retire r t).irqAck = t.irqAck := by unfold State.retire; split <;> (try split) <;> rfl
@[simp] theorem State.retire_draws (s : State) (r : Retired) (t : State) : (s.retire r t).draws = t.draws := by unfold State.retire; split <;> (try split) <;> rfl

/-! `enterTrap` -/

@[simp] theorem State.enterTrap_cfg (s : State) (e c p : Word) : (s.enterTrap e c p).cfg = s.cfg := rfl
@[simp] theorem State.enterTrap_x (s : State) (e c p : Word) : (s.enterTrap e c p).x = s.x := rfl
@[simp] theorem State.enterTrap_f (s : State) (e c p : Word) : (s.enterTrap e c p).f = s.f := rfl
@[simp] theorem State.enterTrap_fflags (s : State) (e c p : Word) : (s.enterTrap e c p).fflags = s.fflags := rfl
@[simp] theorem State.enterTrap_frm (s : State) (e c p : Word) : (s.enterTrap e c p).frm = s.frm := rfl
@[simp] theorem State.enterTrap_mie (s : State) (e c p : Word) : (s.enterTrap e c p).mie = s.mie := rfl
@[simp] theorem State.enterTrap_mtvec (s : State) (e c p : Word) : (s.enterTrap e c p).mtvec = s.mtvec := rfl
@[simp] theorem State.enterTrap_mscratch (s : State) (e c p : Word) : (s.enterTrap e c p).mscratch = s.mscratch := rfl
@[simp] theorem State.enterTrap_tdata1 (s : State) (e c p : Word) : (s.enterTrap e c p).tdata1 = s.tdata1 := rfl
@[simp] theorem State.enterTrap_tdata2 (s : State) (e c p : Word) : (s.enterTrap e c p).tdata2 = s.tdata2 := rfl
@[simp] theorem State.enterTrap_dcsr (s : State) (e c p : Word) : (s.enterTrap e c p).dcsr = s.dcsr := rfl
@[simp] theorem State.enterTrap_dpc (s : State) (e c p : Word) : (s.enterTrap e c p).dpc = s.dpc := rfl
@[simp] theorem State.enterTrap_dscratch0 (s : State) (e c p : Word) : (s.enterTrap e c p).dscratch0 = s.dscratch0 := rfl
@[simp] theorem State.enterTrap_dscratch1 (s : State) (e c p : Word) : (s.enterTrap e c p).dscratch1 = s.dscratch1 := rfl
@[simp] theorem State.enterTrap_loop0 (s : State) (e c p : Word) : (s.enterTrap e c p).loop0 = s.loop0 := rfl
@[simp] theorem State.enterTrap_loop1 (s : State) (e c p : Word) : (s.enterTrap e c p).loop1 = s.loop1 := rfl
@[simp] theorem State.enterTrap_mcountinhibit (s : State) (e c p : Word) : (s.enterTrap e c p).mcountinhibit = s.mcountinhibit := rfl
@[simp] theorem State.enterTrap_mcycle (s : State) (e c p : Word) : (s.enterTrap e c p).mcycle = s.mcycle := rfl
@[simp] theorem State.enterTrap_minstret (s : State) (e c p : Word) : (s.enterTrap e c p).minstret = s.minstret := rfl
@[simp] theorem State.enterTrap_hpmEvent (s : State) (e c p : Word) : (s.enterTrap e c p).hpmEvent = s.hpmEvent := rfl
@[simp] theorem State.enterTrap_hpmCounter (s : State) (e c p : Word) : (s.enterTrap e c p).hpmCounter = s.hpmCounter := rfl
@[simp] theorem State.enterTrap_debugMode (s : State) (e c p : Word) : (s.enterTrap e c p).debugMode = s.debugMode := rfl
@[simp] theorem State.enterTrap_debugPending (s : State) (e c p : Word) : (s.enterTrap e c p).debugPending = s.debugPending := rfl
@[simp] theorem State.enterTrap_stepPhase (s : State) (e c p : Word) : (s.enterTrap e c p).stepPhase = s.stepPhase := rfl
@[simp] theorem State.enterTrap_sleeping (s : State) (e c p : Word) : (s.enterTrap e c p).sleeping = s.sleeping := rfl
@[simp] theorem State.enterTrap_elwWaiting (s : State) (e c p : Word) : (s.enterTrap e c p).elwWaiting = s.elwWaiting := rfl
@[simp] theorem State.enterTrap_fetchEnabled (s : State) (e c p : Word) : (s.enterTrap e c p).fetchEnabled = s.fetchEnabled := rfl
@[simp] theorem State.enterTrap_mem (s : State) (e c p : Word) : (s.enterTrap e c p).mem = s.mem := rfl
@[simp] theorem State.enterTrap_imem (s : State) (e c p : Word) : (s.enterTrap e c p).imem = s.imem := rfl
@[simp] theorem State.enterTrap_irq (s : State) (e c p : Word) : (s.enterTrap e c p).irq = s.irq := rfl
@[simp] theorem State.enterTrap_debugReq (s : State) (e c p : Word) : (s.enterTrap e c p).debugReq = s.debugReq := rfl
@[simp] theorem State.enterTrap_fetchEnablePin (s : State) (e c p : Word) : (s.enterTrap e c p).fetchEnablePin = s.fetchEnablePin := rfl
@[simp] theorem State.enterTrap_pulpClockEn (s : State) (e c p : Word) : (s.enterTrap e c p).pulpClockEn = s.pulpClockEn := rfl
@[simp] theorem State.enterTrap_dataStall (s : State) (e c p : Word) : (s.enterTrap e c p).dataStall = s.dataStall := rfl
@[simp] theorem State.enterTrap_irqAck (s : State) (e c p : Word) : (s.enterTrap e c p).irqAck = s.irqAck := rfl
@[simp] theorem State.enterTrap_draws (s : State) (e c p : Word) : (s.enterTrap e c p).draws = s.draws := rfl

/-! `raise` -/

@[simp] theorem State.raise_cfg (s : State) (c : Word) : (s.raise c).cfg = s.cfg := by unfold State.raise; split <;> rfl
@[simp] theorem State.raise_x (s : State) (c : Word) : (s.raise c).x = s.x := by unfold State.raise; split <;> rfl
@[simp] theorem State.raise_f (s : State) (c : Word) : (s.raise c).f = s.f := by unfold State.raise; split <;> rfl
@[simp] theorem State.raise_fflags (s : State) (c : Word) : (s.raise c).fflags = s.fflags := by unfold State.raise; split <;> rfl
@[simp] theorem State.raise_frm (s : State) (c : Word) : (s.raise c).frm = s.frm := by unfold State.raise; split <;> rfl
@[simp] theorem State.raise_mie (s : State) (c : Word) : (s.raise c).mie = s.mie := by unfold State.raise; split <;> rfl
@[simp] theorem State.raise_mtvec (s : State) (c : Word) : (s.raise c).mtvec = s.mtvec := by unfold State.raise; split <;> rfl
@[simp] theorem State.raise_mscratch (s : State) (c : Word) : (s.raise c).mscratch = s.mscratch := by unfold State.raise; split <;> rfl
@[simp] theorem State.raise_tdata1 (s : State) (c : Word) : (s.raise c).tdata1 = s.tdata1 := by unfold State.raise; split <;> rfl
@[simp] theorem State.raise_tdata2 (s : State) (c : Word) : (s.raise c).tdata2 = s.tdata2 := by unfold State.raise; split <;> rfl
@[simp] theorem State.raise_dcsr (s : State) (c : Word) : (s.raise c).dcsr = s.dcsr := by unfold State.raise; split <;> rfl
@[simp] theorem State.raise_dpc (s : State) (c : Word) : (s.raise c).dpc = s.dpc := by unfold State.raise; split <;> rfl
@[simp] theorem State.raise_dscratch0 (s : State) (c : Word) : (s.raise c).dscratch0 = s.dscratch0 := by unfold State.raise; split <;> rfl
@[simp] theorem State.raise_dscratch1 (s : State) (c : Word) : (s.raise c).dscratch1 = s.dscratch1 := by unfold State.raise; split <;> rfl
@[simp] theorem State.raise_loop0 (s : State) (c : Word) : (s.raise c).loop0 = s.loop0 := by unfold State.raise; split <;> rfl
@[simp] theorem State.raise_loop1 (s : State) (c : Word) : (s.raise c).loop1 = s.loop1 := by unfold State.raise; split <;> rfl
@[simp] theorem State.raise_mcountinhibit (s : State) (c : Word) : (s.raise c).mcountinhibit = s.mcountinhibit := by unfold State.raise; split <;> rfl
@[simp] theorem State.raise_mcycle (s : State) (c : Word) : (s.raise c).mcycle = s.mcycle := by unfold State.raise; split <;> rfl
@[simp] theorem State.raise_minstret (s : State) (c : Word) : (s.raise c).minstret = s.minstret := by unfold State.raise; split <;> rfl
@[simp] theorem State.raise_hpmEvent (s : State) (c : Word) : (s.raise c).hpmEvent = s.hpmEvent := by unfold State.raise; split <;> rfl
@[simp] theorem State.raise_hpmCounter (s : State) (c : Word) : (s.raise c).hpmCounter = s.hpmCounter := by unfold State.raise; split <;> rfl
@[simp] theorem State.raise_debugMode (s : State) (c : Word) : (s.raise c).debugMode = s.debugMode := by unfold State.raise; split <;> rfl
@[simp] theorem State.raise_debugPending (s : State) (c : Word) : (s.raise c).debugPending = s.debugPending := by unfold State.raise; split <;> rfl
@[simp] theorem State.raise_stepPhase (s : State) (c : Word) : (s.raise c).stepPhase = s.stepPhase := by unfold State.raise; split <;> rfl
@[simp] theorem State.raise_sleeping (s : State) (c : Word) : (s.raise c).sleeping = s.sleeping := by unfold State.raise; split <;> rfl
@[simp] theorem State.raise_elwWaiting (s : State) (c : Word) : (s.raise c).elwWaiting = s.elwWaiting := by unfold State.raise; split <;> rfl
@[simp] theorem State.raise_fetchEnabled (s : State) (c : Word) : (s.raise c).fetchEnabled = s.fetchEnabled := by unfold State.raise; split <;> rfl
@[simp] theorem State.raise_mem (s : State) (c : Word) : (s.raise c).mem = s.mem := by unfold State.raise; split <;> rfl
@[simp] theorem State.raise_imem (s : State) (c : Word) : (s.raise c).imem = s.imem := by unfold State.raise; split <;> rfl
@[simp] theorem State.raise_irq (s : State) (c : Word) : (s.raise c).irq = s.irq := by unfold State.raise; split <;> rfl
@[simp] theorem State.raise_debugReq (s : State) (c : Word) : (s.raise c).debugReq = s.debugReq := by unfold State.raise; split <;> rfl
@[simp] theorem State.raise_fetchEnablePin (s : State) (c : Word) : (s.raise c).fetchEnablePin = s.fetchEnablePin := by unfold State.raise; split <;> rfl
@[simp] theorem State.raise_pulpClockEn (s : State) (c : Word) : (s.raise c).pulpClockEn = s.pulpClockEn := by unfold State.raise; split <;> rfl
@[simp] theorem State.raise_dataStall (s : State) (c : Word) : (s.raise c).dataStall = s.dataStall := by unfold State.raise; split <;> rfl
@[simp] theorem State.raise_irqAck (s : State) (c : Word) : (s.raise c).irqAck = s.irqAck := by unfold State.raise; split <;> rfl
@[simp] theorem State.raise_draws (s : State) (c : Word) : (s.raise c).draws = s.draws := by unfold State.raise; split <;> rfl

/-! `takeInterrupt` -/

@[simp] theorem State.takeInterrupt_cfg (s : State) (i : BitVec 5) : (s.takeInterrupt i).cfg = s.cfg := rfl
@[simp] theorem State.takeInterrupt_x (s : State) (i : BitVec 5) : (s.takeInterrupt i).x = s.x := rfl
@[simp] theorem State.takeInterrupt_f (s : State) (i : BitVec 5) : (s.takeInterrupt i).f = s.f := rfl
@[simp] theorem State.takeInterrupt_fflags (s : State) (i : BitVec 5) : (s.takeInterrupt i).fflags = s.fflags := rfl
@[simp] theorem State.takeInterrupt_frm (s : State) (i : BitVec 5) : (s.takeInterrupt i).frm = s.frm := rfl
@[simp] theorem State.takeInterrupt_mie (s : State) (i : BitVec 5) : (s.takeInterrupt i).mie = s.mie := rfl
@[simp] theorem State.takeInterrupt_mtvec (s : State) (i : BitVec 5) : (s.takeInterrupt i).mtvec = s.mtvec := rfl
@[simp] theorem State.takeInterrupt_mscratch (s : State) (i : BitVec 5) : (s.takeInterrupt i).mscratch = s.mscratch := rfl
@[simp] theorem State.takeInterrupt_tdata1 (s : State) (i : BitVec 5) : (s.takeInterrupt i).tdata1 = s.tdata1 := rfl
@[simp] theorem State.takeInterrupt_tdata2 (s : State) (i : BitVec 5) : (s.takeInterrupt i).tdata2 = s.tdata2 := rfl
@[simp] theorem State.takeInterrupt_dcsr (s : State) (i : BitVec 5) : (s.takeInterrupt i).dcsr = s.dcsr := rfl
@[simp] theorem State.takeInterrupt_dpc (s : State) (i : BitVec 5) : (s.takeInterrupt i).dpc = s.dpc := rfl
@[simp] theorem State.takeInterrupt_dscratch0 (s : State) (i : BitVec 5) : (s.takeInterrupt i).dscratch0 = s.dscratch0 := rfl
@[simp] theorem State.takeInterrupt_dscratch1 (s : State) (i : BitVec 5) : (s.takeInterrupt i).dscratch1 = s.dscratch1 := rfl
@[simp] theorem State.takeInterrupt_loop0 (s : State) (i : BitVec 5) : (s.takeInterrupt i).loop0 = s.loop0 := rfl
@[simp] theorem State.takeInterrupt_loop1 (s : State) (i : BitVec 5) : (s.takeInterrupt i).loop1 = s.loop1 := rfl
@[simp] theorem State.takeInterrupt_mcountinhibit (s : State) (i : BitVec 5) : (s.takeInterrupt i).mcountinhibit = s.mcountinhibit := rfl
@[simp] theorem State.takeInterrupt_mcycle (s : State) (i : BitVec 5) : (s.takeInterrupt i).mcycle = s.mcycle := rfl
@[simp] theorem State.takeInterrupt_minstret (s : State) (i : BitVec 5) : (s.takeInterrupt i).minstret = s.minstret := rfl
@[simp] theorem State.takeInterrupt_hpmEvent (s : State) (i : BitVec 5) : (s.takeInterrupt i).hpmEvent = s.hpmEvent := rfl
@[simp] theorem State.takeInterrupt_hpmCounter (s : State) (i : BitVec 5) : (s.takeInterrupt i).hpmCounter = s.hpmCounter := rfl
@[simp] theorem State.takeInterrupt_debugMode (s : State) (i : BitVec 5) : (s.takeInterrupt i).debugMode = s.debugMode := rfl
@[simp] theorem State.takeInterrupt_debugPending (s : State) (i : BitVec 5) : (s.takeInterrupt i).debugPending = s.debugPending := rfl
@[simp] theorem State.takeInterrupt_stepPhase (s : State) (i : BitVec 5) : (s.takeInterrupt i).stepPhase = s.stepPhase := rfl
@[simp] theorem State.takeInterrupt_sleeping (s : State) (i : BitVec 5) : (s.takeInterrupt i).sleeping = s.sleeping := rfl
@[simp] theorem State.takeInterrupt_elwWaiting (s : State) (i : BitVec 5) : (s.takeInterrupt i).elwWaiting = s.elwWaiting := rfl
@[simp] theorem State.takeInterrupt_fetchEnabled (s : State) (i : BitVec 5) : (s.takeInterrupt i).fetchEnabled = s.fetchEnabled := rfl
@[simp] theorem State.takeInterrupt_mem (s : State) (i : BitVec 5) : (s.takeInterrupt i).mem = s.mem := rfl
@[simp] theorem State.takeInterrupt_imem (s : State) (i : BitVec 5) : (s.takeInterrupt i).imem = s.imem := rfl
@[simp] theorem State.takeInterrupt_irq (s : State) (i : BitVec 5) : (s.takeInterrupt i).irq = s.irq := rfl
@[simp] theorem State.takeInterrupt_debugReq (s : State) (i : BitVec 5) : (s.takeInterrupt i).debugReq = s.debugReq := rfl
@[simp] theorem State.takeInterrupt_fetchEnablePin (s : State) (i : BitVec 5) : (s.takeInterrupt i).fetchEnablePin = s.fetchEnablePin := rfl
@[simp] theorem State.takeInterrupt_pulpClockEn (s : State) (i : BitVec 5) : (s.takeInterrupt i).pulpClockEn = s.pulpClockEn := rfl
@[simp] theorem State.takeInterrupt_dataStall (s : State) (i : BitVec 5) : (s.takeInterrupt i).dataStall = s.dataStall := rfl
@[simp] theorem State.takeInterrupt_draws (s : State) (i : BitVec 5) : (s.takeInterrupt i).draws = s.draws := rfl

/-! `enterDebug` -/

@[simp] theorem State.enterDebug_cfg (s : State) (c : BitVec 3) : (s.enterDebug c).cfg = s.cfg := rfl
@[simp] theorem State.enterDebug_x (s : State) (c : BitVec 3) : (s.enterDebug c).x = s.x := rfl
@[simp] theorem State.enterDebug_f (s : State) (c : BitVec 3) : (s.enterDebug c).f = s.f := rfl
@[simp] theorem State.enterDebug_fflags (s : State) (c : BitVec 3) : (s.enterDebug c).fflags = s.fflags := rfl
@[simp] theorem State.enterDebug_frm (s : State) (c : BitVec 3) : (s.enterDebug c).frm = s.frm := rfl
@[simp] theorem State.enterDebug_mstatus (s : State) (c : BitVec 3) : (s.enterDebug c).mstatus = s.mstatus := rfl
@[simp] theorem State.enterDebug_mie (s : State) (c : BitVec 3) : (s.enterDebug c).mie = s.mie := rfl
@[simp] theorem State.enterDebug_mtvec (s : State) (c : BitVec 3) : (s.enterDebug c).mtvec = s.mtvec := rfl
@[simp] theorem State.enterDebug_mscratch (s : State) (c : BitVec 3) : (s.enterDebug c).mscratch = s.mscratch := rfl
@[simp] theorem State.enterDebug_mepc (s : State) (c : BitVec 3) : (s.enterDebug c).mepc = s.mepc := rfl
@[simp] theorem State.enterDebug_mcause (s : State) (c : BitVec 3) : (s.enterDebug c).mcause = s.mcause := rfl
@[simp] theorem State.enterDebug_tdata1 (s : State) (c : BitVec 3) : (s.enterDebug c).tdata1 = s.tdata1 := rfl
@[simp] theorem State.enterDebug_tdata2 (s : State) (c : BitVec 3) : (s.enterDebug c).tdata2 = s.tdata2 := rfl
@[simp] theorem State.enterDebug_dscratch0 (s : State) (c : BitVec 3) : (s.enterDebug c).dscratch0 = s.dscratch0 := rfl
@[simp] theorem State.enterDebug_dscratch1 (s : State) (c : BitVec 3) : (s.enterDebug c).dscratch1 = s.dscratch1 := rfl
@[simp] theorem State.enterDebug_loop0 (s : State) (c : BitVec 3) : (s.enterDebug c).loop0 = s.loop0 := rfl
@[simp] theorem State.enterDebug_loop1 (s : State) (c : BitVec 3) : (s.enterDebug c).loop1 = s.loop1 := rfl
@[simp] theorem State.enterDebug_mcountinhibit (s : State) (c : BitVec 3) : (s.enterDebug c).mcountinhibit = s.mcountinhibit := rfl
@[simp] theorem State.enterDebug_mcycle (s : State) (c : BitVec 3) : (s.enterDebug c).mcycle = s.mcycle := rfl
@[simp] theorem State.enterDebug_minstret (s : State) (c : BitVec 3) : (s.enterDebug c).minstret = s.minstret := rfl
@[simp] theorem State.enterDebug_hpmEvent (s : State) (c : BitVec 3) : (s.enterDebug c).hpmEvent = s.hpmEvent := rfl
@[simp] theorem State.enterDebug_hpmCounter (s : State) (c : BitVec 3) : (s.enterDebug c).hpmCounter = s.hpmCounter := rfl
@[simp] theorem State.enterDebug_sleeping (s : State) (c : BitVec 3) : (s.enterDebug c).sleeping = s.sleeping := rfl
@[simp] theorem State.enterDebug_elwWaiting (s : State) (c : BitVec 3) : (s.enterDebug c).elwWaiting = s.elwWaiting := rfl
@[simp] theorem State.enterDebug_fetchEnabled (s : State) (c : BitVec 3) : (s.enterDebug c).fetchEnabled = s.fetchEnabled := rfl
@[simp] theorem State.enterDebug_mem (s : State) (c : BitVec 3) : (s.enterDebug c).mem = s.mem := rfl
@[simp] theorem State.enterDebug_imem (s : State) (c : BitVec 3) : (s.enterDebug c).imem = s.imem := rfl
@[simp] theorem State.enterDebug_irq (s : State) (c : BitVec 3) : (s.enterDebug c).irq = s.irq := rfl
@[simp] theorem State.enterDebug_debugReq (s : State) (c : BitVec 3) : (s.enterDebug c).debugReq = s.debugReq := rfl
@[simp] theorem State.enterDebug_fetchEnablePin (s : State) (c : BitVec 3) : (s.enterDebug c).fetchEnablePin = s.fetchEnablePin := rfl
@[simp] theorem State.enterDebug_pulpClockEn (s : State) (c : BitVec 3) : (s.enterDebug c).pulpClockEn = s.pulpClockEn := rfl
@[simp] theorem State.enterDebug_dataStall (s : State) (c : BitVec 3) : (s.enterDebug c).dataStall = s.dataStall := rfl
@[simp] theorem State.enterDebug_irqAck (s : State) (c : BitVec 3) : (s.enterDebug c).irqAck = s.irqAck := rfl
@[simp] theorem State.enterDebug_draws (s : State) (c : BitVec 3) : (s.enterDebug c).draws = s.draws := rfl

/-! `tick` -/

@[simp] theorem State.tick_cfg (s : State) : (s.tick).cfg = s.cfg := rfl
@[simp] theorem State.tick_x (s : State) : (s.tick).x = s.x := rfl
@[simp] theorem State.tick_f (s : State) : (s.tick).f = s.f := rfl
@[simp] theorem State.tick_pc (s : State) : (s.tick).pc = s.pc := rfl
@[simp] theorem State.tick_fflags (s : State) : (s.tick).fflags = s.fflags := rfl
@[simp] theorem State.tick_frm (s : State) : (s.tick).frm = s.frm := rfl
@[simp] theorem State.tick_mstatus (s : State) : (s.tick).mstatus = s.mstatus := rfl
@[simp] theorem State.tick_mie (s : State) : (s.tick).mie = s.mie := rfl
@[simp] theorem State.tick_mtvec (s : State) : (s.tick).mtvec = s.mtvec := rfl
@[simp] theorem State.tick_mscratch (s : State) : (s.tick).mscratch = s.mscratch := rfl
@[simp] theorem State.tick_mepc (s : State) : (s.tick).mepc = s.mepc := rfl
@[simp] theorem State.tick_mcause (s : State) : (s.tick).mcause = s.mcause := rfl
@[simp] theorem State.tick_tdata1 (s : State) : (s.tick).tdata1 = s.tdata1 := rfl
@[simp] theorem State.tick_tdata2 (s : State) : (s.tick).tdata2 = s.tdata2 := rfl
@[simp] theorem State.tick_dcsr (s : State) : (s.tick).dcsr = s.dcsr := rfl
@[simp] theorem State.tick_dpc (s : State) : (s.tick).dpc = s.dpc := rfl
@[simp] theorem State.tick_dscratch0 (s : State) : (s.tick).dscratch0 = s.dscratch0 := rfl
@[simp] theorem State.tick_dscratch1 (s : State) : (s.tick).dscratch1 = s.dscratch1 := rfl
@[simp] theorem State.tick_loop0 (s : State) : (s.tick).loop0 = s.loop0 := rfl
@[simp] theorem State.tick_loop1 (s : State) : (s.tick).loop1 = s.loop1 := rfl
@[simp] theorem State.tick_mcountinhibit (s : State) : (s.tick).mcountinhibit = s.mcountinhibit := rfl
@[simp] theorem State.tick_minstret (s : State) : (s.tick).minstret = s.minstret := rfl
@[simp] theorem State.tick_hpmEvent (s : State) : (s.tick).hpmEvent = s.hpmEvent := rfl
@[simp] theorem State.tick_debugMode (s : State) : (s.tick).debugMode = s.debugMode := rfl
@[simp] theorem State.tick_debugPending (s : State) : (s.tick).debugPending = s.debugPending := rfl
@[simp] theorem State.tick_stepPhase (s : State) : (s.tick).stepPhase = s.stepPhase := rfl
@[simp] theorem State.tick_sleeping (s : State) : (s.tick).sleeping = s.sleeping := rfl
@[simp] theorem State.tick_elwWaiting (s : State) : (s.tick).elwWaiting = s.elwWaiting := rfl
@[simp] theorem State.tick_fetchEnabled (s : State) : (s.tick).fetchEnabled = s.fetchEnabled := rfl
@[simp] theorem State.tick_mem (s : State) : (s.tick).mem = s.mem := rfl
@[simp] theorem State.tick_imem (s : State) : (s.tick).imem = s.imem := rfl
@[simp] theorem State.tick_stale (s : State) : (s.tick).stale = s.stale := rfl
@[simp] theorem State.tick_irq (s : State) : (s.tick).irq = s.irq := rfl
@[simp] theorem State.tick_debugReq (s : State) : (s.tick).debugReq = s.debugReq := rfl
@[simp] theorem State.tick_fetchEnablePin (s : State) : (s.tick).fetchEnablePin = s.fetchEnablePin := rfl
@[simp] theorem State.tick_pulpClockEn (s : State) : (s.tick).pulpClockEn = s.pulpClockEn := rfl
@[simp] theorem State.tick_dataStall (s : State) : (s.tick).dataStall = s.dataStall := rfl
@[simp] theorem State.tick_irqAck (s : State) : (s.tick).irqAck = s.irqAck := rfl

/-! `beginStep` -/

@[simp] theorem State.beginStep_cfg (s : State) : (s.beginStep).cfg = s.cfg := rfl
@[simp] theorem State.beginStep_x (s : State) : (s.beginStep).x = s.x := rfl
@[simp] theorem State.beginStep_f (s : State) : (s.beginStep).f = s.f := rfl
@[simp] theorem State.beginStep_pc (s : State) : (s.beginStep).pc = s.pc := rfl
@[simp] theorem State.beginStep_fflags (s : State) : (s.beginStep).fflags = s.fflags := rfl
@[simp] theorem State.beginStep_frm (s : State) : (s.beginStep).frm = s.frm := rfl
@[simp] theorem State.beginStep_mstatus (s : State) : (s.beginStep).mstatus = s.mstatus := rfl
@[simp] theorem State.beginStep_mie (s : State) : (s.beginStep).mie = s.mie := rfl
@[simp] theorem State.beginStep_mtvec (s : State) : (s.beginStep).mtvec = s.mtvec := rfl
@[simp] theorem State.beginStep_mscratch (s : State) : (s.beginStep).mscratch = s.mscratch := rfl
@[simp] theorem State.beginStep_mepc (s : State) : (s.beginStep).mepc = s.mepc := rfl
@[simp] theorem State.beginStep_mcause (s : State) : (s.beginStep).mcause = s.mcause := rfl
@[simp] theorem State.beginStep_tdata1 (s : State) : (s.beginStep).tdata1 = s.tdata1 := rfl
@[simp] theorem State.beginStep_tdata2 (s : State) : (s.beginStep).tdata2 = s.tdata2 := rfl
@[simp] theorem State.beginStep_dcsr (s : State) : (s.beginStep).dcsr = s.dcsr := rfl
@[simp] theorem State.beginStep_dpc (s : State) : (s.beginStep).dpc = s.dpc := rfl
@[simp] theorem State.beginStep_dscratch0 (s : State) : (s.beginStep).dscratch0 = s.dscratch0 := rfl
@[simp] theorem State.beginStep_dscratch1 (s : State) : (s.beginStep).dscratch1 = s.dscratch1 := rfl
@[simp] theorem State.beginStep_loop0 (s : State) : (s.beginStep).loop0 = s.loop0 := rfl
@[simp] theorem State.beginStep_loop1 (s : State) : (s.beginStep).loop1 = s.loop1 := rfl
@[simp] theorem State.beginStep_mcountinhibit (s : State) : (s.beginStep).mcountinhibit = s.mcountinhibit := rfl
@[simp] theorem State.beginStep_minstret (s : State) : (s.beginStep).minstret = s.minstret := rfl
@[simp] theorem State.beginStep_hpmEvent (s : State) : (s.beginStep).hpmEvent = s.hpmEvent := rfl
@[simp] theorem State.beginStep_debugMode (s : State) : (s.beginStep).debugMode = s.debugMode := rfl
@[simp] theorem State.beginStep_debugPending (s : State) : (s.beginStep).debugPending = s.debugPending := rfl
@[simp] theorem State.beginStep_stepPhase (s : State) : (s.beginStep).stepPhase = s.stepPhase := rfl
@[simp] theorem State.beginStep_fetchEnabled (s : State) : (s.beginStep).fetchEnabled = s.fetchEnabled := rfl
@[simp] theorem State.beginStep_mem (s : State) : (s.beginStep).mem = s.mem := rfl
@[simp] theorem State.beginStep_imem (s : State) : (s.beginStep).imem = s.imem := rfl
@[simp] theorem State.beginStep_stale (s : State) : (s.beginStep).stale = s.stale := rfl
@[simp] theorem State.beginStep_irq (s : State) : (s.beginStep).irq = s.irq := rfl
@[simp] theorem State.beginStep_debugReq (s : State) : (s.beginStep).debugReq = s.debugReq := rfl
@[simp] theorem State.beginStep_fetchEnablePin (s : State) : (s.beginStep).fetchEnablePin = s.fetchEnablePin := rfl
@[simp] theorem State.beginStep_pulpClockEn (s : State) : (s.beginStep).pulpClockEn = s.pulpClockEn := rfl
@[simp] theorem State.beginStep_dataStall (s : State) : (s.beginStep).dataStall = s.dataStall := rfl

/-! `afterStep` -/

@[simp] theorem State.afterStep_cfg (s : State) (t : State) : (s.afterStep t).cfg = t.cfg := by unfold State.afterStep; split <;> rfl
@[simp] theorem State.afterStep_x (s : State) (t : State) : (s.afterStep t).x = t.x := by unfold State.afterStep; split <;> rfl
@[simp] theorem State.afterStep_f (s : State) (t : State) : (s.afterStep t).f = t.f := by unfold State.afterStep; split <;> rfl
@[simp] theorem State.afterStep_pc (s : State) (t : State) : (s.afterStep t).pc = t.pc := by unfold State.afterStep; split <;> rfl
@[simp] theorem State.afterStep_fflags (s : State) (t : State) : (s.afterStep t).fflags = t.fflags := by unfold State.afterStep; split <;> rfl
@[simp] theorem State.afterStep_frm (s : State) (t : State) : (s.afterStep t).frm = t.frm := by unfold State.afterStep; split <;> rfl
@[simp] theorem State.afterStep_mstatus (s : State) (t : State) : (s.afterStep t).mstatus = t.mstatus := by unfold State.afterStep; split <;> rfl
@[simp] theorem State.afterStep_mie (s : State) (t : State) : (s.afterStep t).mie = t.mie := by unfold State.afterStep; split <;> rfl
@[simp] theorem State.afterStep_mtvec (s : State) (t : State) : (s.afterStep t).mtvec = t.mtvec := by unfold State.afterStep; split <;> rfl
@[simp] theorem State.afterStep_mscratch (s : State) (t : State) : (s.afterStep t).mscratch = t.mscratch := by unfold State.afterStep; split <;> rfl
@[simp] theorem State.afterStep_mepc (s : State) (t : State) : (s.afterStep t).mepc = t.mepc := by unfold State.afterStep; split <;> rfl
@[simp] theorem State.afterStep_mcause (s : State) (t : State) : (s.afterStep t).mcause = t.mcause := by unfold State.afterStep; split <;> rfl
@[simp] theorem State.afterStep_tdata1 (s : State) (t : State) : (s.afterStep t).tdata1 = t.tdata1 := by unfold State.afterStep; split <;> rfl
@[simp] theorem State.afterStep_tdata2 (s : State) (t : State) : (s.afterStep t).tdata2 = t.tdata2 := by unfold State.afterStep; split <;> rfl
@[simp] theorem State.afterStep_dcsr (s : State) (t : State) : (s.afterStep t).dcsr = t.dcsr := by unfold State.afterStep; split <;> rfl
@[simp] theorem State.afterStep_dpc (s : State) (t : State) : (s.afterStep t).dpc = t.dpc := by unfold State.afterStep; split <;> rfl
@[simp] theorem State.afterStep_dscratch0 (s : State) (t : State) : (s.afterStep t).dscratch0 = t.dscratch0 := by unfold State.afterStep; split <;> rfl
@[simp] theorem State.afterStep_dscratch1 (s : State) (t : State) : (s.afterStep t).dscratch1 = t.dscratch1 := by unfold State.afterStep; split <;> rfl
@[simp] theorem State.afterStep_loop0 (s : State) (t : State) : (s.afterStep t).loop0 = t.loop0 := by unfold State.afterStep; split <;> rfl
@[simp] theorem State.afterStep_loop1 (s : State) (t : State) : (s.afterStep t).loop1 = t.loop1 := by unfold State.afterStep; split <;> rfl
@[simp] theorem State.afterStep_mcountinhibit (s : State) (t : State) : (s.afterStep t).mcountinhibit = t.mcountinhibit := by unfold State.afterStep; split <;> rfl
@[simp] theorem State.afterStep_mcycle (s : State) (t : State) : (s.afterStep t).mcycle = t.mcycle := by unfold State.afterStep; split <;> rfl
@[simp] theorem State.afterStep_minstret (s : State) (t : State) : (s.afterStep t).minstret = t.minstret := by unfold State.afterStep; split <;> rfl
@[simp] theorem State.afterStep_hpmEvent (s : State) (t : State) : (s.afterStep t).hpmEvent = t.hpmEvent := by unfold State.afterStep; split <;> rfl
@[simp] theorem State.afterStep_hpmCounter (s : State) (t : State) : (s.afterStep t).hpmCounter = t.hpmCounter := by unfold State.afterStep; split <;> rfl
@[simp] theorem State.afterStep_debugMode (s : State) (t : State) : (s.afterStep t).debugMode = t.debugMode := by unfold State.afterStep; split <;> rfl
@[simp] theorem State.afterStep_debugPending (s : State) (t : State) : (s.afterStep t).debugPending = t.debugPending := by unfold State.afterStep; split <;> rfl
@[simp] theorem State.afterStep_sleeping (s : State) (t : State) : (s.afterStep t).sleeping = t.sleeping := by unfold State.afterStep; split <;> rfl
@[simp] theorem State.afterStep_elwWaiting (s : State) (t : State) : (s.afterStep t).elwWaiting = t.elwWaiting := by unfold State.afterStep; split <;> rfl
@[simp] theorem State.afterStep_fetchEnabled (s : State) (t : State) : (s.afterStep t).fetchEnabled = t.fetchEnabled := by unfold State.afterStep; split <;> rfl
@[simp] theorem State.afterStep_mem (s : State) (t : State) : (s.afterStep t).mem = t.mem := by unfold State.afterStep; split <;> rfl
@[simp] theorem State.afterStep_imem (s : State) (t : State) : (s.afterStep t).imem = t.imem := by unfold State.afterStep; split <;> rfl
@[simp] theorem State.afterStep_stale (s : State) (t : State) : (s.afterStep t).stale = t.stale := by unfold State.afterStep; split <;> rfl
@[simp] theorem State.afterStep_irq (s : State) (t : State) : (s.afterStep t).irq = t.irq := by unfold State.afterStep; split <;> rfl
@[simp] theorem State.afterStep_debugReq (s : State) (t : State) : (s.afterStep t).debugReq = t.debugReq := by unfold State.afterStep; split <;> rfl
@[simp] theorem State.afterStep_fetchEnablePin (s : State) (t : State) : (s.afterStep t).fetchEnablePin = t.fetchEnablePin := by unfold State.afterStep; split <;> rfl
@[simp] theorem State.afterStep_pulpClockEn (s : State) (t : State) : (s.afterStep t).pulpClockEn = t.pulpClockEn := by unfold State.afterStep; split <;> rfl
@[simp] theorem State.afterStep_dataStall (s : State) (t : State) : (s.afterStep t).dataStall = t.dataStall := by unfold State.afterStep; split <;> rfl
@[simp] theorem State.afterStep_irqAck (s : State) (t : State) : (s.afterStep t).irqAck = t.irqAck := by unfold State.afterStep; split <;> rfl
@[simp] theorem State.afterStep_draws (s : State) (t : State) : (s.afterStep t).draws = t.draws := by unfold State.afterStep; split <;> rfl

/-! `waitForEvent` -/

@[simp] theorem State.waitForEvent_cfg (s : State) (w : EventRead) : (s.waitForEvent w).cfg = s.cfg := rfl
@[simp] theorem State.waitForEvent_x (s : State) (w : EventRead) : (s.waitForEvent w).x = s.x := rfl
@[simp] theorem State.waitForEvent_f (s : State) (w : EventRead) : (s.waitForEvent w).f = s.f := rfl
@[simp] theorem State.waitForEvent_pc (s : State) (w : EventRead) : (s.waitForEvent w).pc = s.pc := rfl
@[simp] theorem State.waitForEvent_fflags (s : State) (w : EventRead) : (s.waitForEvent w).fflags = s.fflags := rfl
@[simp] theorem State.waitForEvent_frm (s : State) (w : EventRead) : (s.waitForEvent w).frm = s.frm := rfl
@[simp] theorem State.waitForEvent_mstatus (s : State) (w : EventRead) : (s.waitForEvent w).mstatus = s.mstatus := rfl
@[simp] theorem State.waitForEvent_mie (s : State) (w : EventRead) : (s.waitForEvent w).mie = s.mie := rfl
@[simp] theorem State.waitForEvent_mtvec (s : State) (w : EventRead) : (s.waitForEvent w).mtvec = s.mtvec := rfl
@[simp] theorem State.waitForEvent_mscratch (s : State) (w : EventRead) : (s.waitForEvent w).mscratch = s.mscratch := rfl
@[simp] theorem State.waitForEvent_mepc (s : State) (w : EventRead) : (s.waitForEvent w).mepc = s.mepc := rfl
@[simp] theorem State.waitForEvent_mcause (s : State) (w : EventRead) : (s.waitForEvent w).mcause = s.mcause := rfl
@[simp] theorem State.waitForEvent_tdata1 (s : State) (w : EventRead) : (s.waitForEvent w).tdata1 = s.tdata1 := rfl
@[simp] theorem State.waitForEvent_tdata2 (s : State) (w : EventRead) : (s.waitForEvent w).tdata2 = s.tdata2 := rfl
@[simp] theorem State.waitForEvent_dcsr (s : State) (w : EventRead) : (s.waitForEvent w).dcsr = s.dcsr := rfl
@[simp] theorem State.waitForEvent_dpc (s : State) (w : EventRead) : (s.waitForEvent w).dpc = s.dpc := rfl
@[simp] theorem State.waitForEvent_dscratch0 (s : State) (w : EventRead) : (s.waitForEvent w).dscratch0 = s.dscratch0 := rfl
@[simp] theorem State.waitForEvent_dscratch1 (s : State) (w : EventRead) : (s.waitForEvent w).dscratch1 = s.dscratch1 := rfl
@[simp] theorem State.waitForEvent_loop0 (s : State) (w : EventRead) : (s.waitForEvent w).loop0 = s.loop0 := rfl
@[simp] theorem State.waitForEvent_loop1 (s : State) (w : EventRead) : (s.waitForEvent w).loop1 = s.loop1 := rfl
@[simp] theorem State.waitForEvent_mcountinhibit (s : State) (w : EventRead) : (s.waitForEvent w).mcountinhibit = s.mcountinhibit := rfl
@[simp] theorem State.waitForEvent_mcycle (s : State) (w : EventRead) : (s.waitForEvent w).mcycle = s.mcycle := rfl
@[simp] theorem State.waitForEvent_minstret (s : State) (w : EventRead) : (s.waitForEvent w).minstret = s.minstret := rfl
@[simp] theorem State.waitForEvent_hpmEvent (s : State) (w : EventRead) : (s.waitForEvent w).hpmEvent = s.hpmEvent := rfl
@[simp] theorem State.waitForEvent_hpmCounter (s : State) (w : EventRead) : (s.waitForEvent w).hpmCounter = s.hpmCounter := rfl
@[simp] theorem State.waitForEvent_debugMode (s : State) (w : EventRead) : (s.waitForEvent w).debugMode = s.debugMode := rfl
@[simp] theorem State.waitForEvent_debugPending (s : State) (w : EventRead) : (s.waitForEvent w).debugPending = s.debugPending := rfl
@[simp] theorem State.waitForEvent_stepPhase (s : State) (w : EventRead) : (s.waitForEvent w).stepPhase = s.stepPhase := rfl
@[simp] theorem State.waitForEvent_fetchEnabled (s : State) (w : EventRead) : (s.waitForEvent w).fetchEnabled = s.fetchEnabled := rfl
@[simp] theorem State.waitForEvent_mem (s : State) (w : EventRead) : (s.waitForEvent w).mem = s.mem := rfl
@[simp] theorem State.waitForEvent_imem (s : State) (w : EventRead) : (s.waitForEvent w).imem = s.imem := rfl
@[simp] theorem State.waitForEvent_stale (s : State) (w : EventRead) : (s.waitForEvent w).stale = s.stale := rfl
@[simp] theorem State.waitForEvent_irq (s : State) (w : EventRead) : (s.waitForEvent w).irq = s.irq := rfl
@[simp] theorem State.waitForEvent_debugReq (s : State) (w : EventRead) : (s.waitForEvent w).debugReq = s.debugReq := rfl
@[simp] theorem State.waitForEvent_fetchEnablePin (s : State) (w : EventRead) : (s.waitForEvent w).fetchEnablePin = s.fetchEnablePin := rfl
@[simp] theorem State.waitForEvent_pulpClockEn (s : State) (w : EventRead) : (s.waitForEvent w).pulpClockEn = s.pulpClockEn := rfl
@[simp] theorem State.waitForEvent_dataStall (s : State) (w : EventRead) : (s.waitForEvent w).dataStall = s.dataStall := rfl
@[simp] theorem State.waitForEvent_irqAck (s : State) (w : EventRead) : (s.waitForEvent w).irqAck = s.irqAck := rfl
@[simp] theorem State.waitForEvent_draws (s : State) (w : EventRead) : (s.waitForEvent w).draws = s.draws := rfl

/-! `setCounter` -/

@[simp] theorem State.setCounter_cfg (s : State) (k : BitVec 5) (v : BitVec 64) : (s.setCounter k v).cfg = s.cfg := by unfold State.setCounter; split; rfl; split; rfl; split <;> rfl
@[simp] theorem State.setCounter_x (s : State) (k : BitVec 5) (v : BitVec 64) : (s.setCounter k v).x = s.x := by unfold State.setCounter; split; rfl; split; rfl; split <;> rfl
@[simp] theorem State.setCounter_f (s : State) (k : BitVec 5) (v : BitVec 64) : (s.setCounter k v).f = s.f := by unfold State.setCounter; split; rfl; split; rfl; split <;> rfl
@[simp] theorem State.setCounter_pc (s : State) (k : BitVec 5) (v : BitVec 64) : (s.setCounter k v).pc = s.pc := by unfold State.setCounter; split; rfl; split; rfl; split <;> rfl
@[simp] theorem State.setCounter_fflags (s : State) (k : BitVec 5) (v : BitVec 64) : (s.setCounter k v).fflags = s.fflags := by unfold State.setCounter; split; rfl; split; rfl; split <;> rfl
@[simp] theorem State.setCounter_frm (s : State) (k : BitVec 5) (v : BitVec 64) : (s.setCounter k v).frm = s.frm := by unfold State.setCounter; split; rfl; split; rfl; split <;> rfl
@[simp] theorem State.setCounter_mstatus (s : State) (k : BitVec 5) (v : BitVec 64) : (s.setCounter k v).mstatus = s.mstatus := by unfold State.setCounter; split; rfl; split; rfl; split <;> rfl
@[simp] theorem State.setCounter_mie (s : State) (k : BitVec 5) (v : BitVec 64) : (s.setCounter k v).mie = s.mie := by unfold State.setCounter; split; rfl; split; rfl; split <;> rfl
@[simp] theorem State.setCounter_mtvec (s : State) (k : BitVec 5) (v : BitVec 64) : (s.setCounter k v).mtvec = s.mtvec := by unfold State.setCounter; split; rfl; split; rfl; split <;> rfl
@[simp] theorem State.setCounter_mscratch (s : State) (k : BitVec 5) (v : BitVec 64) : (s.setCounter k v).mscratch = s.mscratch := by unfold State.setCounter; split; rfl; split; rfl; split <;> rfl
@[simp] theorem State.setCounter_mepc (s : State) (k : BitVec 5) (v : BitVec 64) : (s.setCounter k v).mepc = s.mepc := by unfold State.setCounter; split; rfl; split; rfl; split <;> rfl
@[simp] theorem State.setCounter_mcause (s : State) (k : BitVec 5) (v : BitVec 64) : (s.setCounter k v).mcause = s.mcause := by unfold State.setCounter; split; rfl; split; rfl; split <;> rfl
@[simp] theorem State.setCounter_tdata1 (s : State) (k : BitVec 5) (v : BitVec 64) : (s.setCounter k v).tdata1 = s.tdata1 := by unfold State.setCounter; split; rfl; split; rfl; split <;> rfl
@[simp] theorem State.setCounter_tdata2 (s : State) (k : BitVec 5) (v : BitVec 64) : (s.setCounter k v).tdata2 = s.tdata2 := by unfold State.setCounter; split; rfl; split; rfl; split <;> rfl
@[simp] theorem State.setCounter_dcsr (s : State) (k : BitVec 5) (v : BitVec 64) : (s.setCounter k v).dcsr = s.dcsr := by unfold State.setCounter; split; rfl; split; rfl; split <;> rfl
@[simp] theorem State.setCounter_dpc (s : State) (k : BitVec 5) (v : BitVec 64) : (s.setCounter k v).dpc = s.dpc := by unfold State.setCounter; split; rfl; split; rfl; split <;> rfl
@[simp] theorem State.setCounter_dscratch0 (s : State) (k : BitVec 5) (v : BitVec 64) : (s.setCounter k v).dscratch0 = s.dscratch0 := by unfold State.setCounter; split; rfl; split; rfl; split <;> rfl
@[simp] theorem State.setCounter_dscratch1 (s : State) (k : BitVec 5) (v : BitVec 64) : (s.setCounter k v).dscratch1 = s.dscratch1 := by unfold State.setCounter; split; rfl; split; rfl; split <;> rfl
@[simp] theorem State.setCounter_loop0 (s : State) (k : BitVec 5) (v : BitVec 64) : (s.setCounter k v).loop0 = s.loop0 := by unfold State.setCounter; split; rfl; split; rfl; split <;> rfl
@[simp] theorem State.setCounter_loop1 (s : State) (k : BitVec 5) (v : BitVec 64) : (s.setCounter k v).loop1 = s.loop1 := by unfold State.setCounter; split; rfl; split; rfl; split <;> rfl
@[simp] theorem State.setCounter_mcountinhibit (s : State) (k : BitVec 5) (v : BitVec 64) : (s.setCounter k v).mcountinhibit = s.mcountinhibit := by unfold State.setCounter; split; rfl; split; rfl; split <;> rfl
@[simp] theorem State.setCounter_hpmEvent (s : State) (k : BitVec 5) (v : BitVec 64) : (s.setCounter k v).hpmEvent = s.hpmEvent := by unfold State.setCounter; split; rfl; split; rfl; split <;> rfl
@[simp] theorem State.setCounter_debugMode (s : State) (k : BitVec 5) (v : BitVec 64) : (s.setCounter k v).debugMode = s.debugMode := by unfold State.setCounter; split; rfl; split; rfl; split <;> rfl
@[simp] theorem State.setCounter_debugPending (s : State) (k : BitVec 5) (v : BitVec 64) : (s.setCounter k v).debugPending = s.debugPending := by unfold State.setCounter; split; rfl; split; rfl; split <;> rfl
@[simp] theorem State.setCounter_stepPhase (s : State) (k : BitVec 5) (v : BitVec 64) : (s.setCounter k v).stepPhase = s.stepPhase := by unfold State.setCounter; split; rfl; split; rfl; split <;> rfl
@[simp] theorem State.setCounter_sleeping (s : State) (k : BitVec 5) (v : BitVec 64) : (s.setCounter k v).sleeping = s.sleeping := by unfold State.setCounter; split; rfl; split; rfl; split <;> rfl
@[simp] theorem State.setCounter_elwWaiting (s : State) (k : BitVec 5) (v : BitVec 64) : (s.setCounter k v).elwWaiting = s.elwWaiting := by unfold State.setCounter; split; rfl; split; rfl; split <;> rfl
@[simp] theorem State.setCounter_fetchEnabled (s : State) (k : BitVec 5) (v : BitVec 64) : (s.setCounter k v).fetchEnabled = s.fetchEnabled := by unfold State.setCounter; split; rfl; split; rfl; split <;> rfl
@[simp] theorem State.setCounter_mem (s : State) (k : BitVec 5) (v : BitVec 64) : (s.setCounter k v).mem = s.mem := by unfold State.setCounter; split; rfl; split; rfl; split <;> rfl
@[simp] theorem State.setCounter_imem (s : State) (k : BitVec 5) (v : BitVec 64) : (s.setCounter k v).imem = s.imem := by unfold State.setCounter; split; rfl; split; rfl; split <;> rfl
@[simp] theorem State.setCounter_stale (s : State) (k : BitVec 5) (v : BitVec 64) : (s.setCounter k v).stale = s.stale := by unfold State.setCounter; split; rfl; split; rfl; split <;> rfl
@[simp] theorem State.setCounter_irq (s : State) (k : BitVec 5) (v : BitVec 64) : (s.setCounter k v).irq = s.irq := by unfold State.setCounter; split; rfl; split; rfl; split <;> rfl
@[simp] theorem State.setCounter_debugReq (s : State) (k : BitVec 5) (v : BitVec 64) : (s.setCounter k v).debugReq = s.debugReq := by unfold State.setCounter; split; rfl; split; rfl; split <;> rfl
@[simp] theorem State.setCounter_fetchEnablePin (s : State) (k : BitVec 5) (v : BitVec 64) : (s.setCounter k v).fetchEnablePin = s.fetchEnablePin := by unfold State.setCounter; split; rfl; split; rfl; split <;> rfl
@[simp] theorem State.setCounter_pulpClockEn (s : State) (k : BitVec 5) (v : BitVec 64) : (s.setCounter k v).pulpClockEn = s.pulpClockEn := by unfold State.setCounter; split; rfl; split; rfl; split <;> rfl
@[simp] theorem State.setCounter_dataStall (s : State) (k : BitVec 5) (v : BitVec 64) : (s.setCounter k v).dataStall = s.dataStall := by unfold State.setCounter; split; rfl; split; rfl; split <;> rfl
@[simp] theorem State.setCounter_irqAck (s : State) (k : BitVec 5) (v : BitVec 64) : (s.setCounter k v).irqAck = s.irqAck := by unfold State.setCounter; split; rfl; split; rfl; split <;> rfl
@[simp] theorem State.setCounter_draws (s : State) (k : BitVec 5) (v : BitVec 64) : (s.setCounter k v).draws = s.draws := by unfold State.setCounter; split; rfl; split; rfl; split <;> rfl

/-! `setEventSelector` -/

@[simp] theorem State.setEventSelector_cfg (s : State) (k : BitVec 5) (v : Word) : (s.setEventSelector k v).cfg = s.cfg := by unfold State.setEventSelector; split <;> rfl
@[simp] theorem State.setEventSelector_x (s : State) (k : BitVec 5) (v : Word) : (s.setEventSelector k v).x = s.x := by unfold State.setEventSelector; split <;> rfl
@[simp] theorem State.setEventSelector_f (s : State) (k : BitVec 5) (v : Word) : (s.setEventSelector k v).f = s.f := by unfold State.setEventSelector; split <;> rfl
@[simp] theorem State.setEventSelector_pc (s : State) (k : BitVec 5) (v : Word) : (s.setEventSelector k v).pc = s.pc := by unfold State.setEventSelector; split <;> rfl
@[simp] theorem State.setEventSelector_fflags (s : State) (k : BitVec 5) (v : Word) : (s.setEventSelector k v).fflags = s.fflags := by unfold State.setEventSelector; split <;> rfl
@[simp] theorem State.setEventSelector_frm (s : State) (k : BitVec 5) (v : Word) : (s.setEventSelector k v).frm = s.frm := by unfold State.setEventSelector; split <;> rfl
@[simp] theorem State.setEventSelector_mstatus (s : State) (k : BitVec 5) (v : Word) : (s.setEventSelector k v).mstatus = s.mstatus := by unfold State.setEventSelector; split <;> rfl
@[simp] theorem State.setEventSelector_mie (s : State) (k : BitVec 5) (v : Word) : (s.setEventSelector k v).mie = s.mie := by unfold State.setEventSelector; split <;> rfl
@[simp] theorem State.setEventSelector_mtvec (s : State) (k : BitVec 5) (v : Word) : (s.setEventSelector k v).mtvec = s.mtvec := by unfold State.setEventSelector; split <;> rfl
@[simp] theorem State.setEventSelector_mscratch (s : State) (k : BitVec 5) (v : Word) : (s.setEventSelector k v).mscratch = s.mscratch := by unfold State.setEventSelector; split <;> rfl
@[simp] theorem State.setEventSelector_mepc (s : State) (k : BitVec 5) (v : Word) : (s.setEventSelector k v).mepc = s.mepc := by unfold State.setEventSelector; split <;> rfl
@[simp] theorem State.setEventSelector_mcause (s : State) (k : BitVec 5) (v : Word) : (s.setEventSelector k v).mcause = s.mcause := by unfold State.setEventSelector; split <;> rfl
@[simp] theorem State.setEventSelector_tdata1 (s : State) (k : BitVec 5) (v : Word) : (s.setEventSelector k v).tdata1 = s.tdata1 := by unfold State.setEventSelector; split <;> rfl
@[simp] theorem State.setEventSelector_tdata2 (s : State) (k : BitVec 5) (v : Word) : (s.setEventSelector k v).tdata2 = s.tdata2 := by unfold State.setEventSelector; split <;> rfl
@[simp] theorem State.setEventSelector_dcsr (s : State) (k : BitVec 5) (v : Word) : (s.setEventSelector k v).dcsr = s.dcsr := by unfold State.setEventSelector; split <;> rfl
@[simp] theorem State.setEventSelector_dpc (s : State) (k : BitVec 5) (v : Word) : (s.setEventSelector k v).dpc = s.dpc := by unfold State.setEventSelector; split <;> rfl
@[simp] theorem State.setEventSelector_dscratch0 (s : State) (k : BitVec 5) (v : Word) : (s.setEventSelector k v).dscratch0 = s.dscratch0 := by unfold State.setEventSelector; split <;> rfl
@[simp] theorem State.setEventSelector_dscratch1 (s : State) (k : BitVec 5) (v : Word) : (s.setEventSelector k v).dscratch1 = s.dscratch1 := by unfold State.setEventSelector; split <;> rfl
@[simp] theorem State.setEventSelector_loop0 (s : State) (k : BitVec 5) (v : Word) : (s.setEventSelector k v).loop0 = s.loop0 := by unfold State.setEventSelector; split <;> rfl
@[simp] theorem State.setEventSelector_loop1 (s : State) (k : BitVec 5) (v : Word) : (s.setEventSelector k v).loop1 = s.loop1 := by unfold State.setEventSelector; split <;> rfl
@[simp] theorem State.setEventSelector_mcountinhibit (s : State) (k : BitVec 5) (v : Word) : (s.setEventSelector k v).mcountinhibit = s.mcountinhibit := by unfold State.setEventSelector; split <;> rfl
@[simp] theorem State.setEventSelector_mcycle (s : State) (k : BitVec 5) (v : Word) : (s.setEventSelector k v).mcycle = s.mcycle := by unfold State.setEventSelector; split <;> rfl
@[simp] theorem State.setEventSelector_minstret (s : State) (k : BitVec 5) (v : Word) : (s.setEventSelector k v).minstret = s.minstret := by unfold State.setEventSelector; split <;> rfl
@[simp] theorem State.setEventSelector_hpmCounter (s : State) (k : BitVec 5) (v : Word) : (s.setEventSelector k v).hpmCounter = s.hpmCounter := by unfold State.setEventSelector; split <;> rfl
@[simp] theorem State.setEventSelector_debugMode (s : State) (k : BitVec 5) (v : Word) : (s.setEventSelector k v).debugMode = s.debugMode := by unfold State.setEventSelector; split <;> rfl
@[simp] theorem State.setEventSelector_debugPending (s : State) (k : BitVec 5) (v : Word) : (s.setEventSelector k v).debugPending = s.debugPending := by unfold State.setEventSelector; split <;> rfl
@[simp] theorem State.setEventSelector_stepPhase (s : State) (k : BitVec 5) (v : Word) : (s.setEventSelector k v).stepPhase = s.stepPhase := by unfold State.setEventSelector; split <;> rfl
@[simp] theorem State.setEventSelector_sleeping (s : State) (k : BitVec 5) (v : Word) : (s.setEventSelector k v).sleeping = s.sleeping := by unfold State.setEventSelector; split <;> rfl
@[simp] theorem State.setEventSelector_elwWaiting (s : State) (k : BitVec 5) (v : Word) : (s.setEventSelector k v).elwWaiting = s.elwWaiting := by unfold State.setEventSelector; split <;> rfl
@[simp] theorem State.setEventSelector_fetchEnabled (s : State) (k : BitVec 5) (v : Word) : (s.setEventSelector k v).fetchEnabled = s.fetchEnabled := by unfold State.setEventSelector; split <;> rfl
@[simp] theorem State.setEventSelector_mem (s : State) (k : BitVec 5) (v : Word) : (s.setEventSelector k v).mem = s.mem := by unfold State.setEventSelector; split <;> rfl
@[simp] theorem State.setEventSelector_imem (s : State) (k : BitVec 5) (v : Word) : (s.setEventSelector k v).imem = s.imem := by unfold State.setEventSelector; split <;> rfl
@[simp] theorem State.setEventSelector_stale (s : State) (k : BitVec 5) (v : Word) : (s.setEventSelector k v).stale = s.stale := by unfold State.setEventSelector; split <;> rfl
@[simp] theorem State.setEventSelector_irq (s : State) (k : BitVec 5) (v : Word) : (s.setEventSelector k v).irq = s.irq := by unfold State.setEventSelector; split <;> rfl
@[simp] theorem State.setEventSelector_debugReq (s : State) (k : BitVec 5) (v : Word) : (s.setEventSelector k v).debugReq = s.debugReq := by unfold State.setEventSelector; split <;> rfl
@[simp] theorem State.setEventSelector_fetchEnablePin (s : State) (k : BitVec 5) (v : Word) : (s.setEventSelector k v).fetchEnablePin = s.fetchEnablePin := by unfold State.setEventSelector; split <;> rfl
@[simp] theorem State.setEventSelector_pulpClockEn (s : State) (k : BitVec 5) (v : Word) : (s.setEventSelector k v).pulpClockEn = s.pulpClockEn := by unfold State.setEventSelector; split <;> rfl
@[simp] theorem State.setEventSelector_dataStall (s : State) (k : BitVec 5) (v : Word) : (s.setEventSelector k v).dataStall = s.dataStall := by unfold State.setEventSelector; split <;> rfl
@[simp] theorem State.setEventSelector_irqAck (s : State) (k : BitVec 5) (v : Word) : (s.setEventSelector k v).irqAck = s.irqAck := by unfold State.setEventSelector; split <;> rfl
@[simp] theorem State.setEventSelector_draws (s : State) (k : BitVec 5) (v : Word) : (s.setEventSelector k v).draws = s.draws := by unfold State.setEventSelector; split <;> rfl

end Sys2Proof.Machine
end

