-- ==== Sys2Proof/Laws/Ops.lean ====
section
/-! SUPPORT. What each shared operation does, said once: later proofs cite these and unfold none of them. -/

namespace Sys2Proof.Machine

/-! ### Registers -/

theorem State.reg_zero (s : State) : s.reg 0 = 0 := rfl

/-- Reading a register after a write: the written value, 0 from x0, the old value elsewhere. -/
theorem State.reg_setReg (s : State) (r q : Reg) (v : Word) :
    (s.setReg r v).reg q = if q = 0 then 0 else if q = r then v else s.reg q := by
  by_cases hq : q = 0
  · rw [if_pos hq, hq]; rfl
  · rw [if_neg hq]
    by_cases hr : r = 0
    · have hs : s.setReg r v = s := if_pos hr
      rw [hs, if_neg (fun e => hq (e.trans hr))]
    · have hs : s.setReg r v = { s with x := s.x.set r.toFin v } := if_neg hr
      rw [hs]
      unfold State.reg
      rw [if_neg hq, if_neg hq]
      by_cases h : q = r
      · subst h; simp
      · have : r.toFin.val ≠ q.toFin.val := fun e => h (BitVec.eq_of_toNat_eq e.symm)
        rw [if_neg h]
        exact Vector.getElem_set_ne r.toFin.isLt q.toFin.isLt this

theorem State.writesReg_setReg (s : State) (r : Reg) (v : Word) : WritesReg s (s.setReg r v) r v :=
  fun q => s.reg_setReg r q v

/-- Where no register changes, the claim about x0 holds. -/
theorem writesReg_none {s t : State} (h : ∀ q, t.reg q = s.reg q) : WritesReg s t 0 0 := by
  intro q
  rw [h]
  by_cases hq : q = 0
  · rw [if_pos hq, hq]; rfl
  · rw [if_neg hq, if_neg hq]

/-- Reading depends on the register file alone. -/
theorem State.reg_congr {s t : State} (h : t.x = s.x) (q : Reg) : t.reg q = s.reg q := by
  unfold State.reg; simp only [h]

/-! ### Retiring -/

/-- A pattern without two set bits is 0 or one bit. -/
theorem oneBit {sel : BitVec 16} (h0 : sel ≠ 0) (h : sel &&& (sel - 1) = 0) : ∃ k : Fin 16, sel = 1#16 <<< k.val := by
  have hn : sel.toNat ≠ 0 := fun e => h0 (BitVec.eq_of_toNat_eq e)
  have h1 : sel.toNat &&& sel.toNat - 1 = 0 := by
    have hs : (sel - 1).toNat = sel.toNat - 1 := by
      have := sel.isLt
      show (2 ^ 16 - 1 + sel.toNat) % 2 ^ 16 = _
      omega
    have := congrArg BitVec.toNat h
    rwa [BitVec.toNat_and, hs] at this
  obtain ⟨k, hk⟩ := (Nat.and_sub_one_eq_zero_iff_isPowerOfTwo hn).1 h1
  have hlt : 2 ^ k < 2 ^ 16 := hk ▸ sel.isLt
  have hk16 : k < 16 := (Nat.pow_lt_pow_iff_right (by decide)).1 hlt
  refine ⟨⟨k, hk16⟩, BitVec.eq_of_toNat_eq ?_⟩
  rw [BitVec.toNat_shiftLeft, hk, Nat.shiftLeft_eq]
  simpa using (Nat.mod_eq_of_lt hlt).symm

/-- Masking with one bit asks for that bit. -/
theorem oneBit_and (k : Fin 16) (e : BitVec 16) : 1#16 <<< k.val &&& e ≠ 0 ↔ e.getLsbD k.val = true := by
  constructor
  · intro h
    by_contra hk
    apply h
    apply BitVec.eq_of_getLsbD_eq
    intro i hi
    by_cases hik : i = k.val
    · subst hik; simp at hk; simp [hk]
    · simp [BitVec.getLsbD_shiftLeft, BitVec.getLsbD_one]; omega
  · intro h e0
    have := congrArg (BitVec.getLsbD · k.val) e0
    simp at this h
    simp [h] at this

theorem getLsbD_ite (p : Prop) [Decidable p] (a b : BitVec 16) (n : Nat) :
    (if p then a else b).getLsbD n = if p then a.getLsbD n else b.getLsbD n := by split <;> rfl

/-- The events of a completing instruction beside MINSTR and COMP_INSTR. -/
def Retired.events (r : Retired) : BitVec 16 :=
  (if r.load then evLoad else 0) ||| (if r.store then evStore else 0) ||| (if r.jump then evJump else 0) |||
    (if r.branch then evBranch else 0) ||| (if r.branch && r.target.isSome then evTaken else 0)

/-- The counted events, as a bit pattern. -/
theorem countsEvent_iff (r : Retired) (sel : BitVec 16) :
    countsEvent r sel = true ↔ sel &&& (sel - 1) = 0 ∧ sel &&& (eventsOf r.len r.events) ≠ 0 := by
  by_cases h : sel &&& (sel - 1) = 0
  · by_cases h0 : sel = 0
    · subst h0; simp [countsEvent]
    · obtain ⟨k, rfl⟩ := oneBit h0 h
      rw [and_iff_right h, oneBit_and]
      clear h h0
      unfold eventsOf Retired.events evLoad evStore evJump evBranch evTaken
      simp only [BitVec.getLsbD_or, getLsbD_ite]
      fin_cases k <;> simp [countsEvent]
  · have : countsEvent r sel = false := by
      unfold countsEvent
      split <;> first | rfl | (exact absurd rfl h)
    rw [this]; exact ⟨fun e => (by cases e), fun e => absurd e.1 h⟩

/-- An event counter after an instruction (60_exceptions R872). -/
theorem retireCounter_eq (s : State) (r : Retired) (hw : r.written = 0) (i : Fin 29) (c : BitVec 64) :
    (Counts s i s.hpmEvent[i] (eventsOf r.len r.events) → retireCounter s r i c = c + 1) ∧
    (¬ Counts s i s.hpmEvent[i] (eventsOf r.len r.events) → retireCounter s r i c = c) := by
  have hg : s.hpmEvent.toArray.getD i.val 0 = s.hpmEvent[i] := by
    simp [Array.getD]
  have hc := countsEvent_iff r s.hpmEvent[i]
  unfold retireCounter Counts State.inhibited
  rw [hg, hw]
  constructor
  · rintro ⟨h1, h2, h3⟩
    rw [hc.2 h3, h2]
    simp [h1]
  · intro h
    rw [if_neg]
    intro h'
    simp only [Bool.and_eq_true, Bool.not_eq_true', decide_eq_true_eq] at h'
    exact h ⟨h'.1.1.1, h'.1.1.2, hc.1 h'.2⟩

/-- A single bit is 0 or 1. -/
theorem bit_cases : ∀ k : BitVec 1, k = 0 ∨ k = 1 := by decide

/-- The model's test for the end of loop 0 is that of R413. -/
theorem loopBack_zero {s : State} : s.loopBack = some 0 ↔ s.endsLoop0 := by
  unfold State.loopBack State.endsLoop0 HwLoop.ends
  cases s.cfg.corevPulp <;> simp

/-- The same for loop 1. -/
theorem loopBack_one {s : State} : s.loopBack = some 1 ↔ s.endsLoop1 := by
  unfold State.loopBack State.endsLoop1 State.endsLoop0 HwLoop.ends
  cases s.cfg.corevPulp <;> simp
  split <;> simp_all

/-- What retiring an instruction does, said once. -/
theorem State.retire_completes (s t : State) (r : Retired) (hw : r.written = 0) :
    Completes t s (s.retire r t) r.len r.target r.events := by
  have hm : retireInstret s r t.minstret = if s.mcountinhibit.getLsbD 2 then t.minstret else t.minstret + 1 := by
    simp [retireInstret, hw, State.inhibited]
  have hh : ∀ i : Fin 29, (t.hpmCounter.mapIdx (fun i c => retireCounter s r i c))[i] = retireCounter s r i t.hpmCounter[i] :=
    fun i => by simp
  have hc : ∀ i : Fin 29,
      (Counts s i s.hpmEvent[i] (eventsOf r.len r.events) →
        (t.hpmCounter.mapIdx (fun i c => retireCounter s r i c))[i] = t.hpmCounter[i] + 1) ∧
      (¬ Counts s i s.hpmEvent[i] (eventsOf r.len r.events) →
        (t.hpmCounter.mapIdx (fun i c => retireCounter s r i c))[i] = t.hpmCounter[i]) :=
    fun i => (hh i).symm ▸ retireCounter_eq s r hw i _
  cases htg : r.target with
  | some p =>
    unfold State.retire
    rw [htg]
    refine ⟨rfl, ⟨fun h => (by cases h.1), fun _ => rfl⟩, ⟨fun h => (by cases h.1), fun _ => rfl⟩, hm, hc,
      ⟨fun _ => rfl, fun h => by cases h.1⟩, rfl⟩
  | none =>
    unfold State.retire
    rw [htg]
    cases hl : s.loopBack with
    | none =>
      have h0 : ¬ s.endsLoop0 := fun h => by rw [loopBack_zero.2 h] at hl; cases hl
      have h1 : ¬ s.endsLoop1 := fun h => by rw [loopBack_one.2 h] at hl; cases hl
      refine ⟨⟨fun h => absurd h h0, fun h => absurd h h1, fun _ _ => rfl⟩, ⟨fun h => absurd h.2 h0, fun _ => rfl⟩,
        ⟨fun h => absurd h.2 h1, fun _ => rfl⟩, hm, hc, ⟨fun h => absurd rfl h, fun _ => ?_⟩, rfl⟩
      exact (Decidable.em (r.flush = true)).symm.imp (fun h => if_neg h) (fun h => if_pos h)
    | some k =>
      have hk : k = 0 ∨ k = 1 := bit_cases k
      rcases hk with rfl | rfl
      · have h0 : s.endsLoop0 := loopBack_zero.1 hl
        have h1 : ¬ s.endsLoop1 := fun h => h.2.1 h0
        refine ⟨⟨fun _ => rfl, fun h => absurd h h1, fun h => absurd h0 h⟩, ⟨fun _ => rfl, fun h => absurd ⟨rfl, h0⟩ h⟩,
          ⟨fun h => absurd h.2 h1, fun _ => rfl⟩, hm, hc, ⟨fun h => absurd rfl h, fun _ => ?_⟩, rfl⟩
        exact (Decidable.em _).imp (fun h => if_pos h) (fun h => if_neg h)
      · have h1 : s.endsLoop1 := loopBack_one.1 hl
        have h0 : ¬ s.endsLoop0 := h1.2.1
        refine ⟨⟨fun h => absurd h h0, fun _ => rfl, fun _ h => absurd h1 h⟩, ⟨fun h => absurd h.2 h0, fun _ => rfl⟩,
          ⟨fun _ => rfl, fun h => absurd ⟨rfl, h1⟩ h⟩, hm, hc, ⟨fun h => absurd rfl h, fun _ => ?_⟩, rfl⟩
        exact (Decidable.em _).imp (fun h => if_pos h) (fun h => if_neg h)

/-- What completes over a state with its own effect on the register files and memory, completes over the state without it. -/
theorem Completes.of_frame {e e' s t : State} {len : Word} {tg : Option Word} {ev : BitVec 16}
    (h : Completes e' s t len tg ev) (hf : e' = { e with x := e'.x, f := e'.f, mem := e'.mem }) :
    Completes e s t len tg ev := by
  obtain ⟨h1, h2, h3, h4, h5, h6, h7⟩ := h
  rw [hf] at h2 h3 h4 h5 h6 h7
  exact ⟨h1, h2, h3, h4, h5, h6, h7⟩


@[simp] theorem State.retire_reg (s t : State) (r : Retired) (q : Reg) : (s.retire r t).reg q = t.reg q :=
  State.reg_congr (by simp) q

theorem State.setReg_frame (s : State) (r : Reg) (v : Word) : s.setReg r v = { s with x := (s.setReg r v).x } := by
  unfold State.setReg; split <;> rfl

/-- Writing `rd` and retiring is completing with the write. -/
theorem completesWith_setReg {s : State} {i : Instr} {rd : Reg} {v : Word} {ev : BitVec 16} (r : Retired)
    (hw : r.written = 0) (he : r.events = ev) (h : exec i s = .next (s.retire r (s.setReg rd v))) :
    CompletesWith s s i rd v r.len r.target ev := by
  subst he
  refine ⟨_, h, fun q => ?_, ?_, fun a => ?_, (State.retire_completes s _ r hw).of_frame ?_⟩
  · rw [State.retire_reg]; exact State.reg_setReg ..
  · simp
  · simp
  · rw [State.setReg_frame]

/-- Retiring alone is completing with no write. -/
theorem completesWith_none {s : State} {i : Instr} {ev : BitVec 16} (r : Retired) (hw : r.written = 0)
    (he : r.events = ev) (h : exec i s = .next (s.retire r s)) : CompletesWith s s i 0 0 r.len r.target ev :=
  completesWith_setReg r hw he h

/-! ### The shared forms of completion -/

theorem gives_of_writeBack {s : State} {i : Instr} {len : Word} {rd : Reg} {v v' : Word}
    (h : exec i s = writeBack len rd v s) (hv : v = v') : Gives s i len rd v' :=
  hv ▸ completesWith_setReg { len := len } rfl (by simp [Retired.events]) h

theorem loads_of_loadTo {s : State} {i : Instr} {len : Word} {rd : Reg} {v v' : Word}
    (h : exec i s = loadTo len rd v s) (hv : v = v') : Loads s i len rd v' :=
  hv ▸ completesWith_setReg { len := len, load := true } rfl (by simp [Retired.events]) h

theorem jumpsTo_of_jumpLink {s : State} {i : Instr} {len : Word} {rd : Reg} {p p' : Word}
    (h : exec i s = jumpLink len rd p s) (hp : p = p') : JumpsTo s i len rd p' :=
  hp ▸ completesWith_setReg { len := len, target := some p, jump := true } rfl (by simp [Retired.events]) h

theorem branches_of_branchIf {s : State} {i : Instr} {len : Word} {b : Bool} {off : Word} {P : Prop}
    (h : exec i s = branchIf len b off s) (hb : b = true ↔ P) : Branches s i len P (s.pc + off) := by
  constructor
  · intro hp
    have hb' := hb.2 hp
    subst hb'
    exact completesWith_none { len := len, branch := true, target := some (s.pc + off) } rfl (by simp [Retired.events]) h
  · intro hp
    have hb' : b = false := Bool.eq_false_iff.2 (fun e => hp (hb.1 e))
    subst hb'
    exact completesWith_none { len := len, branch := true } rfl (by simp [Retired.events]) h

theorem State.keepOld_frame (s : State) (a : Word) : s.keepOld a = { s with stale := (s.keepOld a).stale } := by
  unfold State.keepOld; split <;> rfl

theorem State.noteWord_frame (s : State) (a : Word) : s.noteWord a = { s with stale := (s.noteWord a).stale } := by
  unfold State.noteWord; split
  · rfl
  · exact s.keepOld_frame a

/-- Before the first fetch no store leaves anything old in the prefetcher (10_state R107, R108). -/
theorem State.noteWord_of_not_fetching {s : State} (h : s.fetchEnabled = false) (a : Word) : s.noteWord a = s := by
  unfold State.noteWord State.keepOld; simp [h]

theorem State.noteWords_frame (s : State) (a n : Word) : s.noteWords a n = { s with stale := (s.noteWords a n).stale } := by
  unfold State.noteWords
  split
  · exact s.noteWord_frame a
  · rw [State.noteWord_frame, State.noteWord_frame]

/-- A store of bytes, with a base register written, as the claim about stores. -/
theorem stores_of_bytes {s : State} {i : Instr} {len a : Word} {n : Nat} {v : Word} {base : Reg} {after : Word} {m : Memory}
    (h : exec i s = .next (s.retire { len := len, store := true }
      (State.setReg { (s.noteWords a (BitVec.ofNat 32 (n - 1))) with mem := m } base after)))
    (hm : ∀ k : Nat, k < n → m.byte (a + BitVec.ofNat 32 k) = v.extractLsb' (8 * k) 8)
    (hk : ∀ b : Word, (∀ k : Nat, k < n → b ≠ a + BitVec.ofNat 32 k) → m.byte b = s.mem.byte b) :
    Stores s i len a n v base after := by
  have he : Retired.events { len := len, store := true } = evStore := by simp [Retired.events]
  refine ⟨_, h, fun q => ?_, ?_, ⟨fun k hkn => ?_, fun b hb => ?_⟩,
    he ▸ (State.retire_completes s _ { len := len, store := true } rfl).of_frame ?_⟩
  · rw [State.retire_reg, State.reg_setReg]
    split
    · rfl
    · split
      · rfl
      · rw [State.noteWords_frame]; rfl
  · rw [State.retire_f, State.setReg_f, State.noteWords_frame]
  · rw [State.retire_mem, State.setReg_mem]; exact hm k hkn
  · rw [State.retire_mem, State.setReg_mem]; exact hk b hb
  · rw [State.setReg_frame]

/-- The bytes that a byte store leaves. -/
theorem storeByte_bytes {m : Memory} (hw : m.wf = true) (a : Word) (v : Byte) (w : Word) (hv : w.extractLsb' 0 8 = v) :
    (∀ k : Nat, k < 1 → (m.setByte a v).byte (a + BitVec.ofNat 32 k) = w.extractLsb' (8 * k) 8) ∧
    (∀ b : Word, (∀ k : Nat, k < 1 → b ≠ a + BitVec.ofNat 32 k) → (m.setByte a v).byte b = m.byte b) := by
  constructor
  · intro k hk
    obtain rfl : k = 0 := by omega
    simpa [hv] using Memory.byte_setByte_self a v hw
  · intro b hb
    have := hb 0 (by decide)
    exact Memory.byte_setByte_of_ne m v (by simpa using this)

/-- The bytes that a halfword store leaves. -/
theorem storeHalf_bytes {m : Memory} (hw : m.wf = true) (a : Word) (v : BitVec 16) (w : Word) (hv : w.extractLsb' 0 16 = v) :
    (∀ k : Nat, k < 2 → (m.setHalf a v).byte (a + BitVec.ofNat 32 k) = w.extractLsb' (8 * k) 8) ∧
    (∀ b : Word, (∀ k : Nat, k < 2 → b ≠ a + BitVec.ofNat 32 k) → (m.setHalf a v).byte b = m.byte b) := by
  have hb := Memory.byte_setHalf a v hw
  constructor
  · intro k hk
    interval_cases k
    · simpa [← hv] using hb.1
    · refine hb.2.trans ?_
      rw [← hv, BitVec.extractLsb'_extractLsb'_of_le (by decide)]
  · intro b hk
    exact Memory.byte_setHalf_of_ne m v (by simpa using hk 0 (by decide)) (hk 1 (by decide))

/-- The bytes that a word store leaves. -/
theorem storeWord_bytes {m : Memory} (hw : m.wf = true) (a v : Word) :
    (∀ k : Nat, k < 4 → (m.setWord a v).byte (a + BitVec.ofNat 32 k) = v.extractLsb' (8 * k) 8) ∧
    (∀ b : Word, (∀ k : Nat, k < 4 → b ≠ a + BitVec.ofNat 32 k) → (m.setWord a v).byte b = m.byte b) := by
  obtain ⟨h0, h1, h2, h3⟩ := Memory.byte_setWord a v hw
  constructor
  · intro k hk
    interval_cases k
    · simpa using h0
    · exact h1
    · exact h2
    · exact h3
  · intro b hk
    exact Memory.byte_setWord_of_ne m v (by simpa using hk 0 (by decide)) (hk 1 (by decide)) (hk 2 (by decide))
      (hk 3 (by decide))

theorem State.storeByte_eq (s : State) (a : Word) (v : Byte) :
    s.storeByte a v = { (s.noteWords a 0) with mem := s.mem.setByte a v } := by
  show ({ (s.noteWords a 0) with mem := (s.noteWords a 0).mem.setByte a v } : State) = _
  rw [State.noteWords_mem]

theorem State.storeHalf_eq (s : State) (a : Word) (v : BitVec 16) :
    s.storeHalf a v = { (s.noteWords a 1) with mem := s.mem.setHalf a v } := by
  show ({ (s.noteWords a 1) with mem := (s.noteWords a 1).mem.setHalf a v } : State) = _
  rw [State.noteWords_mem]

theorem State.storeWord_eq (s : State) (a v : Word) :
    s.storeWord a v = { (s.noteWords a 3) with mem := s.mem.setWord a v } := by
  show ({ (s.noteWords a 3) with mem := (s.noteWords a 3).mem.setWord a v } : State) = _
  rw [State.noteWords_mem]

/-- A byte store, with a base register written. -/
theorem stores_of_storeByte {s : State} {i : Instr} {len a : Word} {v : Word} {base : Reg} {after : Word} (hw : s.mem.wf = true)
    (h : exec i s = .next (s.retire { len := len, store := true } ((s.storeByte a (v.extractLsb' 0 8)).setReg base after))) :
    Stores s i len a 1 v base after :=
  stores_of_bytes (m := s.mem.setByte a (v.extractLsb' 0 8)) (by rw [h, State.storeByte_eq]; rfl)
    (storeByte_bytes hw a _ v rfl).1 (storeByte_bytes hw a _ v rfl).2

/-- A halfword store, with a base register written. -/
theorem stores_of_storeHalf {s : State} {i : Instr} {len a : Word} {v : Word} {base : Reg} {after : Word} (hw : s.mem.wf = true)
    (h : exec i s = .next (s.retire { len := len, store := true } ((s.storeHalf a (v.extractLsb' 0 16)).setReg base after))) :
    Stores s i len a 2 v base after :=
  stores_of_bytes (m := s.mem.setHalf a (v.extractLsb' 0 16)) (by rw [h, State.storeHalf_eq]; rfl)
    (storeHalf_bytes hw a _ v rfl).1 (storeHalf_bytes hw a _ v rfl).2

/-- A word store, with a base register written. -/
theorem stores_of_storeWord {s : State} {i : Instr} {len a : Word} {v : Word} {base : Reg} {after : Word} (hw : s.mem.wf = true)
    (h : exec i s = .next (s.retire { len := len, store := true } ((s.storeWord a v).setReg base after))) :
    Stores s i len a 4 v base after :=
  stores_of_bytes (m := s.mem.setWord a v) (by rw [h, State.storeWord_eq]; rfl)
    (storeWord_bytes hw a v).1 (storeWord_bytes hw a v).2

/-- An Xcv instruction that writes a register, where it exists. -/
theorem gives_of_xcv {s : State} {i : Instr} {rd : Reg} {v v' : Word} (hp : s.cfg.corevPulp = true)
    (h : exec i s = xcv rd v s) (hv : v = v') : Gives s i 4 rd v' :=
  gives_of_writeBack (h.trans (if_pos hp)) hv

end Sys2Proof.Machine
end

