-- ==== Sys2Proof/Laws/PerInstr.lean ====
section
/-! SUPPORT. The per-instruction lemmas of statements about every instruction: decoding its encoding gives it back. -/

set_option linter.unusedSimpArgs false

namespace Sys2Proof.Laws

/-! One equation per encoding format: what decoding its words comes to. -/

theorem full (f7 : BitVec 7) (rs2 rs1 : Reg) (f3 : BitVec 3) (rd : Reg) (op : BitVec 7) :
    decodeCode (.full (word32 f7 rs2 rs1 f3 rd op)) = decodeFields f7 rs2 rs1 f3 rd op :=
  decode32_word32 ..

theorem half (f3 : BitVec 3) (b12 : BitVec 1) (a b : Reg) (q : BitVec 2) :
    decodeCode (.half (word16 f3 b12 a b q)) = decodeFields16 f3 b12 a b q :=
  decode16_word16 ..

theorem simd (f6 : BitVec 6) (b25 : BitVec 1) (f3 : BitVec 3) (rd rs1 rs2 : Reg) :
    decodeCode (encSimd f6 b25 f3 rd rs1 rs2) = decodeSimd f6 b25 rs2 rs1 f3 rd := by
  refine (full ..).trans ?_
  show decodeSimd ((f6 ++ b25).extractLsb' 1 6) ((f6 ++ b25).extractLsb' 0 1) rs2 rs1 f3 rd = _
  rw [BitVec.extractLsb'_append_eq_left, BitVec.extractLsb'_append_eq_right]

theorem loop (f4 : BitVec 4) (l : BitVec 1) (rs1 : Reg) (u : BitVec 12) :
    decodeCode (encLoop f4 l rs1 u) = decodeHwLoop (u.extractLsb' 5 7) (u.extractLsb' 0 5) rs1 (f4 ++ l) :=
  full ..

theorem top2 (f2 : BitVec 2) (is3 : Reg) : (f2 ++ is3).extractLsb' 5 2 = f2 := BitVec.extractLsb'_append_eq_left

theorem low5 (f2 : BitVec 2) (is3 : Reg) : (f2 ++ is3).extractLsb' 0 5 = is3 := BitVec.extractLsb'_append_eq_right

theorem loopCode (f4 : BitVec 4) (l : BitVec 1) : (f4 ++ l).extractLsb' 1 4 = f4 := BitVec.extractLsb'_append_eq_left

theorem loopSet (f4 : BitVec 4) (l : BitVec 1) : (f4 ++ l).extractLsb' 0 1 = l := BitVec.extractLsb'_append_eq_right

theorem fmtOf (rs3 : Reg) : (rs3 ++ 0#2).extractLsb' 0 2 = 0#2 := BitVec.extractLsb'_append_eq_right

theorem rs3Of (rs3 : Reg) : (rs3 ++ 0#2).extractLsb' 2 5 = rs3 := BitVec.extractLsb'_append_eq_left

theorem low3 (f2 : BitVec 2) (r : Reg3) : (f2 ++ r).extractLsb' 0 3 = r := BitVec.extractLsb'_append_eq_right

theorem high2 (f2 : BitVec 2) (r : Reg3) : (f2 ++ r).extractLsb' 3 2 = f2 := BitVec.extractLsb'_append_eq_left

end Sys2Proof.Laws

namespace Sys2Proof.Laws.RoundTrip

/-- Decoding the encoding of a well-formed instruction gives it back. -/
def Statement (i : Instr) : Prop := i.wellFormed = true → decodeCode (encode i) = .ok i

theorem lui (rd : Reg) (imm : BitVec 20) : Statement (.lui rd imm) :=
  fun _ => (full ..).trans (congrArg (fun v => Except.ok (Instr.lui rd v)) (immU_enc imm))

theorem auipc (rd : Reg) (imm : BitVec 20) : Statement (.auipc rd imm) :=
  fun _ => (full ..).trans (congrArg (fun v => Except.ok (Instr.auipc rd v)) (immU_enc imm))

theorem jal (rd : Reg) (imm : BitVec 20) : Statement (.jal rd imm) :=
  fun _ => (full ..).trans (congrArg (fun v => Except.ok (Instr.jal rd v)) ((congrArg immJ (immU_enc _)).trans (immJ_enc imm)))

theorem jalr (rd rs1 : Reg) (imm : BitVec 12) : Statement (.jalr rd rs1 imm) :=
  fun _ => (full ..).trans (congrArg (fun v => Except.ok (Instr.jalr rd rs1 v)) (immI_enc imm))

theorem beq (rs1 rs2 : Reg) (imm : BitVec 12) : Statement (.beq rs1 rs2 imm) :=
  fun _ => (full ..).trans (congrArg (fun v => Except.ok (Instr.beq rs1 rs2 v)) (immB_enc imm))

theorem bne (rs1 rs2 : Reg) (imm : BitVec 12) : Statement (.bne rs1 rs2 imm) :=
  fun _ => (full ..).trans (congrArg (fun v => Except.ok (Instr.bne rs1 rs2 v)) (immB_enc imm))

theorem blt (rs1 rs2 : Reg) (imm : BitVec 12) : Statement (.blt rs1 rs2 imm) :=
  fun _ => (full ..).trans (congrArg (fun v => Except.ok (Instr.blt rs1 rs2 v)) (immB_enc imm))

theorem bge (rs1 rs2 : Reg) (imm : BitVec 12) : Statement (.bge rs1 rs2 imm) :=
  fun _ => (full ..).trans (congrArg (fun v => Except.ok (Instr.bge rs1 rs2 v)) (immB_enc imm))

theorem bltu (rs1 rs2 : Reg) (imm : BitVec 12) : Statement (.bltu rs1 rs2 imm) :=
  fun _ => (full ..).trans (congrArg (fun v => Except.ok (Instr.bltu rs1 rs2 v)) (immB_enc imm))

theorem bgeu (rs1 rs2 : Reg) (imm : BitVec 12) : Statement (.bgeu rs1 rs2 imm) :=
  fun _ => (full ..).trans (congrArg (fun v => Except.ok (Instr.bgeu rs1 rs2 v)) (immB_enc imm))

theorem lb (rd rs1 : Reg) (imm : BitVec 12) : Statement (.lb rd rs1 imm) :=
  fun _ => (full ..).trans (congrArg (fun v => Except.ok (Instr.lb rd rs1 v)) (immI_enc imm))

theorem lh (rd rs1 : Reg) (imm : BitVec 12) : Statement (.lh rd rs1 imm) :=
  fun _ => (full ..).trans (congrArg (fun v => Except.ok (Instr.lh rd rs1 v)) (immI_enc imm))

theorem lw (rd rs1 : Reg) (imm : BitVec 12) : Statement (.lw rd rs1 imm) :=
  fun _ => (full ..).trans (congrArg (fun v => Except.ok (Instr.lw rd rs1 v)) (immI_enc imm))

theorem lbu (rd rs1 : Reg) (imm : BitVec 12) : Statement (.lbu rd rs1 imm) :=
  fun _ => (full ..).trans (congrArg (fun v => Except.ok (Instr.lbu rd rs1 v)) (immI_enc imm))

theorem lhu (rd rs1 : Reg) (imm : BitVec 12) : Statement (.lhu rd rs1 imm) :=
  fun _ => (full ..).trans (congrArg (fun v => Except.ok (Instr.lhu rd rs1 v)) (immI_enc imm))

theorem sb (rs2 rs1 : Reg) (imm : BitVec 12) : Statement (.sb rs2 rs1 imm) :=
  fun _ => (full ..).trans (congrArg (fun v => Except.ok (Instr.sb rs2 rs1 v)) (immS_enc imm))

theorem sh (rs2 rs1 : Reg) (imm : BitVec 12) : Statement (.sh rs2 rs1 imm) :=
  fun _ => (full ..).trans (congrArg (fun v => Except.ok (Instr.sh rs2 rs1 v)) (immS_enc imm))

theorem sw (rs2 rs1 : Reg) (imm : BitVec 12) : Statement (.sw rs2 rs1 imm) :=
  fun _ => (full ..).trans (congrArg (fun v => Except.ok (Instr.sw rs2 rs1 v)) (immS_enc imm))

theorem addi (rd rs1 : Reg) (imm : BitVec 12) : Statement (.addi rd rs1 imm) :=
  fun _ => (full ..).trans (congrArg (fun v => Except.ok (Instr.addi rd rs1 v)) (immI_enc imm))

theorem slti (rd rs1 : Reg) (imm : BitVec 12) : Statement (.slti rd rs1 imm) :=
  fun _ => (full ..).trans (congrArg (fun v => Except.ok (Instr.slti rd rs1 v)) (immI_enc imm))

theorem sltiu (rd rs1 : Reg) (imm : BitVec 12) : Statement (.sltiu rd rs1 imm) :=
  fun _ => (full ..).trans (congrArg (fun v => Except.ok (Instr.sltiu rd rs1 v)) (immI_enc imm))

theorem xori (rd rs1 : Reg) (imm : BitVec 12) : Statement (.xori rd rs1 imm) :=
  fun _ => (full ..).trans (congrArg (fun v => Except.ok (Instr.xori rd rs1 v)) (immI_enc imm))

theorem ori (rd rs1 : Reg) (imm : BitVec 12) : Statement (.ori rd rs1 imm) :=
  fun _ => (full ..).trans (congrArg (fun v => Except.ok (Instr.ori rd rs1 v)) (immI_enc imm))

theorem andi (rd rs1 : Reg) (imm : BitVec 12) : Statement (.andi rd rs1 imm) :=
  fun _ => (full ..).trans (congrArg (fun v => Except.ok (Instr.andi rd rs1 v)) (immI_enc imm))

theorem slli (rd rs1 : Reg) (shamt : BitVec 5) : Statement (.slli rd rs1 shamt) :=
  fun _ => (full ..).trans rfl

theorem srli (rd rs1 : Reg) (shamt : BitVec 5) : Statement (.srli rd rs1 shamt) :=
  fun _ => (full ..).trans rfl

theorem srai (rd rs1 : Reg) (shamt : BitVec 5) : Statement (.srai rd rs1 shamt) :=
  fun _ => (full ..).trans rfl

theorem add (rd rs1 rs2 : Reg) : Statement (.add rd rs1 rs2) :=
  fun _ => (full ..).trans rfl

theorem sub (rd rs1 rs2 : Reg) : Statement (.sub rd rs1 rs2) :=
  fun _ => (full ..).trans rfl

theorem sll (rd rs1 rs2 : Reg) : Statement (.sll rd rs1 rs2) :=
  fun _ => (full ..).trans rfl

theorem slt (rd rs1 rs2 : Reg) : Statement (.slt rd rs1 rs2) :=
  fun _ => (full ..).trans rfl

theorem sltu (rd rs1 rs2 : Reg) : Statement (.sltu rd rs1 rs2) :=
  fun _ => (full ..).trans rfl

theorem xor (rd rs1 rs2 : Reg) : Statement (.xor rd rs1 rs2) :=
  fun _ => (full ..).trans rfl

theorem srl (rd rs1 rs2 : Reg) : Statement (.srl rd rs1 rs2) :=
  fun _ => (full ..).trans rfl

theorem sra (rd rs1 rs2 : Reg) : Statement (.sra rd rs1 rs2) :=
  fun _ => (full ..).trans rfl

theorem or (rd rs1 rs2 : Reg) : Statement (.or rd rs1 rs2) :=
  fun _ => (full ..).trans rfl

theorem and (rd rs1 rs2 : Reg) : Statement (.and rd rs1 rs2) :=
  fun _ => (full ..).trans rfl

theorem ecall : Statement (.ecall) :=
  fun _ => (full ..).trans rfl

theorem ebreak : Statement (.ebreak) :=
  fun _ => (full ..).trans rfl

theorem mul (rd rs1 rs2 : Reg) : Statement (.mul rd rs1 rs2) :=
  fun _ => (full ..).trans rfl

theorem mulh (rd rs1 rs2 : Reg) : Statement (.mulh rd rs1 rs2) :=
  fun _ => (full ..).trans rfl

theorem mulhsu (rd rs1 rs2 : Reg) : Statement (.mulhsu rd rs1 rs2) :=
  fun _ => (full ..).trans rfl

theorem mulhu (rd rs1 rs2 : Reg) : Statement (.mulhu rd rs1 rs2) :=
  fun _ => (full ..).trans rfl

theorem div (rd rs1 rs2 : Reg) : Statement (.div rd rs1 rs2) :=
  fun _ => (full ..).trans rfl

theorem divu (rd rs1 rs2 : Reg) : Statement (.divu rd rs1 rs2) :=
  fun _ => (full ..).trans rfl

theorem rem (rd rs1 rs2 : Reg) : Statement (.rem rd rs1 rs2) :=
  fun _ => (full ..).trans rfl

theorem remu (rd rs1 rs2 : Reg) : Statement (.remu rd rs1 rs2) :=
  fun _ => (full ..).trans rfl

theorem csrrw (rd : Reg) (csr : BitVec 12) (rs1 : Reg) : Statement (.csrrw rd csr rs1) :=
  fun _ => (full ..).trans (congrArg (fun v => Except.ok (Instr.csrrw rd v rs1)) (immI_enc csr))

theorem csrrs (rd : Reg) (csr : BitVec 12) (rs1 : Reg) : Statement (.csrrs rd csr rs1) :=
  fun _ => (full ..).trans (congrArg (fun v => Except.ok (Instr.csrrs rd v rs1)) (immI_enc csr))

theorem csrrc (rd : Reg) (csr : BitVec 12) (rs1 : Reg) : Statement (.csrrc rd csr rs1) :=
  fun _ => (full ..).trans (congrArg (fun v => Except.ok (Instr.csrrc rd v rs1)) (immI_enc csr))

theorem csrrwi (rd : Reg) (csr : BitVec 12) (uimm : BitVec 5) : Statement (.csrrwi rd csr uimm) :=
  fun _ => (full ..).trans (congrArg (fun v => Except.ok (Instr.csrrwi rd v uimm)) (immI_enc csr))

theorem csrrsi (rd : Reg) (csr : BitVec 12) (uimm : BitVec 5) : Statement (.csrrsi rd csr uimm) :=
  fun _ => (full ..).trans (congrArg (fun v => Except.ok (Instr.csrrsi rd v uimm)) (immI_enc csr))

theorem csrrci (rd : Reg) (csr : BitVec 12) (uimm : BitVec 5) : Statement (.csrrci rd csr uimm) :=
  fun _ => (full ..).trans (congrArg (fun v => Except.ok (Instr.csrrci rd v uimm)) (immI_enc csr))

theorem fence (imm : BitVec 12) (rs1 rd : Reg) : Statement (.fence imm rs1 rd) :=
  fun _ => (full ..).trans (congrArg (fun v => Except.ok (Instr.fence v rs1 rd)) (immI_enc imm))

theorem fenceI (imm : BitVec 12) (rs1 rd : Reg) : Statement (.fenceI imm rs1 rd) :=
  fun _ => (full ..).trans (congrArg (fun v => Except.ok (Instr.fenceI v rs1 rd)) (immI_enc imm))

theorem mret : Statement (.mret) :=
  fun _ => (full ..).trans rfl

theorem dret : Statement (.dret) :=
  fun _ => (full ..).trans rfl

theorem wfi : Statement (.wfi) :=
  fun _ => (full ..).trans rfl

theorem flw (rd rs1 : Reg) (imm : BitVec 12) : Statement (.flw rd rs1 imm) :=
  fun _ => (full ..).trans (congrArg (fun v => Except.ok (Instr.flw rd rs1 v)) (immI_enc imm))

theorem fsw (rs2 rs1 : Reg) (imm : BitVec 12) : Statement (.fsw rs2 rs1 imm) :=
  fun _ => (full ..).trans (congrArg (fun v => Except.ok (Instr.fsw rs2 rs1 v)) (immS_enc imm))

theorem fmaddS (rd rs1 rs2 rs3 : Reg) (rm : BitVec 3) : Statement (.fmaddS rd rs1 rs2 rs3 rm) :=
  fun _ => (full ..).trans (by simp only [decodeFields, decodeR4, fmtOf, rs3Of])

theorem fmsubS (rd rs1 rs2 rs3 : Reg) (rm : BitVec 3) : Statement (.fmsubS rd rs1 rs2 rs3 rm) :=
  fun _ => (full ..).trans (by simp only [decodeFields, decodeR4, fmtOf, rs3Of])

theorem fnmsubS (rd rs1 rs2 rs3 : Reg) (rm : BitVec 3) : Statement (.fnmsubS rd rs1 rs2 rs3 rm) :=
  fun _ => (full ..).trans (by simp only [decodeFields, decodeR4, fmtOf, rs3Of])

theorem fnmaddS (rd rs1 rs2 rs3 : Reg) (rm : BitVec 3) : Statement (.fnmaddS rd rs1 rs2 rs3 rm) :=
  fun _ => (full ..).trans (by simp only [decodeFields, decodeR4, fmtOf, rs3Of])

theorem faddS (rd rs1 rs2 : Reg) (rm : BitVec 3) : Statement (.faddS rd rs1 rs2 rm) :=
  fun _ => (full ..).trans rfl

theorem fsubS (rd rs1 rs2 : Reg) (rm : BitVec 3) : Statement (.fsubS rd rs1 rs2 rm) :=
  fun _ => (full ..).trans rfl

theorem fmulS (rd rs1 rs2 : Reg) (rm : BitVec 3) : Statement (.fmulS rd rs1 rs2 rm) :=
  fun _ => (full ..).trans rfl

theorem fdivS (rd rs1 rs2 : Reg) (rm : BitVec 3) : Statement (.fdivS rd rs1 rs2 rm) :=
  fun _ => (full ..).trans rfl

theorem fsqrtS (rd rs1 : Reg) (rm : BitVec 3) : Statement (.fsqrtS rd rs1 rm) :=
  fun _ => (full ..).trans rfl

theorem fsgnjS (rd rs1 rs2 : Reg) : Statement (.fsgnjS rd rs1 rs2) :=
  fun _ => (full ..).trans rfl

theorem fsgnjnS (rd rs1 rs2 : Reg) : Statement (.fsgnjnS rd rs1 rs2) :=
  fun _ => (full ..).trans rfl

theorem fsgnjxS (rd rs1 rs2 : Reg) : Statement (.fsgnjxS rd rs1 rs2) :=
  fun _ => (full ..).trans rfl

theorem fminS (rd rs1 rs2 : Reg) : Statement (.fminS rd rs1 rs2) :=
  fun _ => (full ..).trans rfl

theorem fmaxS (rd rs1 rs2 : Reg) : Statement (.fmaxS rd rs1 rs2) :=
  fun _ => (full ..).trans rfl

theorem fcvtWS (rd rs1 : Reg) (rm : BitVec 3) : Statement (.fcvtWS rd rs1 rm) :=
  fun _ => (full ..).trans rfl

theorem fcvtWuS (rd rs1 : Reg) (rm : BitVec 3) : Statement (.fcvtWuS rd rs1 rm) :=
  fun _ => (full ..).trans rfl

theorem fmvXW (rd rs1 : Reg) : Statement (.fmvXW rd rs1) :=
  fun _ => (full ..).trans rfl

theorem feqS (rd rs1 rs2 : Reg) : Statement (.feqS rd rs1 rs2) :=
  fun _ => (full ..).trans rfl

theorem fltS (rd rs1 rs2 : Reg) : Statement (.fltS rd rs1 rs2) :=
  fun _ => (full ..).trans rfl

theorem fleS (rd rs1 rs2 : Reg) : Statement (.fleS rd rs1 rs2) :=
  fun _ => (full ..).trans rfl

theorem fclassS (rd rs1 : Reg) : Statement (.fclassS rd rs1) :=
  fun _ => (full ..).trans rfl

theorem fcvtSW (rd rs1 : Reg) (rm : BitVec 3) : Statement (.fcvtSW rd rs1 rm) :=
  fun _ => (full ..).trans rfl

theorem fcvtSWu (rd rs1 : Reg) (rm : BitVec 3) : Statement (.fcvtSWu rd rs1 rm) :=
  fun _ => (full ..).trans rfl

theorem fmvWX (rd rs1 : Reg) : Statement (.fmvWX rd rs1) :=
  fun _ => (full ..).trans rfl

theorem cvLbPostImm (rd rs1 : Reg) (imm : BitVec 12) : Statement (.cvLbPostImm rd rs1 imm) :=
  fun _ => (full ..).trans (congrArg (fun v => Except.ok (Instr.cvLbPostImm rd rs1 v)) (immI_enc imm))

theorem cvLbuPostImm (rd rs1 : Reg) (imm : BitVec 12) : Statement (.cvLbuPostImm rd rs1 imm) :=
  fun _ => (full ..).trans (congrArg (fun v => Except.ok (Instr.cvLbuPostImm rd rs1 v)) (immI_enc imm))

theorem cvLhPostImm (rd rs1 : Reg) (imm : BitVec 12) : Statement (.cvLhPostImm rd rs1 imm) :=
  fun _ => (full ..).trans (congrArg (fun v => Except.ok (Instr.cvLhPostImm rd rs1 v)) (immI_enc imm))

theorem cvLhuPostImm (rd rs1 : Reg) (imm : BitVec 12) : Statement (.cvLhuPostImm rd rs1 imm) :=
  fun _ => (full ..).trans (congrArg (fun v => Except.ok (Instr.cvLhuPostImm rd rs1 v)) (immI_enc imm))

theorem cvLwPostImm (rd rs1 : Reg) (imm : BitVec 12) : Statement (.cvLwPostImm rd rs1 imm) :=
  fun _ => (full ..).trans (congrArg (fun v => Except.ok (Instr.cvLwPostImm rd rs1 v)) (immI_enc imm))

theorem cvLbPostReg (rd rs1 rs2 : Reg) : Statement (.cvLbPostReg rd rs1 rs2) :=
  fun _ => (full ..).trans rfl

theorem cvLbuPostReg (rd rs1 rs2 : Reg) : Statement (.cvLbuPostReg rd rs1 rs2) :=
  fun _ => (full ..).trans rfl

theorem cvLhPostReg (rd rs1 rs2 : Reg) : Statement (.cvLhPostReg rd rs1 rs2) :=
  fun _ => (full ..).trans rfl

theorem cvLhuPostReg (rd rs1 rs2 : Reg) : Statement (.cvLhuPostReg rd rs1 rs2) :=
  fun _ => (full ..).trans rfl

theorem cvLwPostReg (rd rs1 rs2 : Reg) : Statement (.cvLwPostReg rd rs1 rs2) :=
  fun _ => (full ..).trans rfl

theorem cvLbIdx (rd rs1 rs2 : Reg) : Statement (.cvLbIdx rd rs1 rs2) :=
  fun _ => (full ..).trans rfl

theorem cvLbuIdx (rd rs1 rs2 : Reg) : Statement (.cvLbuIdx rd rs1 rs2) :=
  fun _ => (full ..).trans rfl

theorem cvLhIdx (rd rs1 rs2 : Reg) : Statement (.cvLhIdx rd rs1 rs2) :=
  fun _ => (full ..).trans rfl

theorem cvLhuIdx (rd rs1 rs2 : Reg) : Statement (.cvLhuIdx rd rs1 rs2) :=
  fun _ => (full ..).trans rfl

theorem cvLwIdx (rd rs1 rs2 : Reg) : Statement (.cvLwIdx rd rs1 rs2) :=
  fun _ => (full ..).trans rfl

theorem cvSbPostImm (rs2 rs1 : Reg) (imm : BitVec 12) : Statement (.cvSbPostImm rs2 rs1 imm) :=
  fun _ => (full ..).trans (congrArg (fun v => Except.ok (Instr.cvSbPostImm rs2 rs1 v)) (immS_enc imm))

theorem cvShPostImm (rs2 rs1 : Reg) (imm : BitVec 12) : Statement (.cvShPostImm rs2 rs1 imm) :=
  fun _ => (full ..).trans (congrArg (fun v => Except.ok (Instr.cvShPostImm rs2 rs1 v)) (immS_enc imm))

theorem cvSwPostImm (rs2 rs1 : Reg) (imm : BitVec 12) : Statement (.cvSwPostImm rs2 rs1 imm) :=
  fun _ => (full ..).trans (congrArg (fun v => Except.ok (Instr.cvSwPostImm rs2 rs1 v)) (immS_enc imm))

theorem cvSbPostReg (rs2 rs1 rs3 : Reg) : Statement (.cvSbPostReg rs2 rs1 rs3) :=
  fun _ => (full ..).trans rfl

theorem cvShPostReg (rs2 rs1 rs3 : Reg) : Statement (.cvShPostReg rs2 rs1 rs3) :=
  fun _ => (full ..).trans rfl

theorem cvSwPostReg (rs2 rs1 rs3 : Reg) : Statement (.cvSwPostReg rs2 rs1 rs3) :=
  fun _ => (full ..).trans rfl

theorem cvSbIdx (rs2 rs1 rs3 : Reg) : Statement (.cvSbIdx rs2 rs1 rs3) :=
  fun _ => (full ..).trans rfl

theorem cvShIdx (rs2 rs1 rs3 : Reg) : Statement (.cvShIdx rs2 rs1 rs3) :=
  fun _ => (full ..).trans rfl

theorem cvSwIdx (rs2 rs1 rs3 : Reg) : Statement (.cvSwIdx rs2 rs1 rs3) :=
  fun _ => (full ..).trans rfl

theorem cvElw (rd rs1 : Reg) (imm : BitVec 12) : Statement (.cvElw rd rs1 imm) :=
  fun _ => (full ..).trans (congrArg (fun v => Except.ok (Instr.cvElw rd rs1 v)) (immI_enc imm))

theorem cvStarti (l : BitVec 1) (uimmL : BitVec 12) : Statement (.cvStarti l uimmL) :=
  fun _ => (loop ..).trans (by simp only [decodeHwLoop, loopCode, loopSet, immI_enc]; try rfl)

theorem cvStart (l : BitVec 1) (rs1 : Reg) : Statement (.cvStart l rs1) :=
  fun _ => (loop ..).trans (by simp only [decodeHwLoop, loopCode, loopSet, immI_enc]; try rfl)

theorem cvEndi (l : BitVec 1) (uimmL : BitVec 12) : Statement (.cvEndi l uimmL) :=
  fun _ => (loop ..).trans (by simp only [decodeHwLoop, loopCode, loopSet, immI_enc]; try rfl)

theorem cvEnd (l : BitVec 1) (rs1 : Reg) : Statement (.cvEnd l rs1) :=
  fun _ => (loop ..).trans (by simp only [decodeHwLoop, loopCode, loopSet, immI_enc]; try rfl)

theorem cvCounti (l : BitVec 1) (uimmL : BitVec 12) : Statement (.cvCounti l uimmL) :=
  fun _ => (loop ..).trans (by simp only [decodeHwLoop, loopCode, loopSet, immI_enc]; try rfl)

theorem cvCount (l : BitVec 1) (rs1 : Reg) : Statement (.cvCount l rs1) :=
  fun _ => (loop ..).trans (by simp only [decodeHwLoop, loopCode, loopSet, immI_enc]; try rfl)

theorem cvSetupi (l : BitVec 1) (uimmL : BitVec 12) (uimmS : BitVec 5) : Statement (.cvSetupi l uimmL uimmS) :=
  fun _ => (loop ..).trans (by simp only [decodeHwLoop, loopCode, loopSet, immI_enc]; try rfl)

theorem cvSetup (l : BitVec 1) (rs1 : Reg) (uimmL : BitVec 12) : Statement (.cvSetup l rs1 uimmL) :=
  fun _ => (loop ..).trans (by simp only [decodeHwLoop, loopCode, loopSet, immI_enc]; try rfl)

theorem cvExtract (rd rs1 : Reg) (is3 is2 : BitVec 5) : Statement (.cvExtract rd rs1 is3 is2) :=
  fun _ => (full ..).trans (by simp only [decodeFields, decodeCustom2, top2, low5])

theorem cvExtractu (rd rs1 : Reg) (is3 is2 : BitVec 5) : Statement (.cvExtractu rd rs1 is3 is2) :=
  fun _ => (full ..).trans (by simp only [decodeFields, decodeCustom2, top2, low5])

theorem cvInsert (rd rs1 : Reg) (is3 is2 : BitVec 5) : Statement (.cvInsert rd rs1 is3 is2) :=
  fun _ => (full ..).trans (by simp only [decodeFields, decodeCustom2, top2, low5])

theorem cvBclr (rd rs1 : Reg) (is3 is2 : BitVec 5) : Statement (.cvBclr rd rs1 is3 is2) :=
  fun _ => (full ..).trans (by simp only [decodeFields, decodeCustom2, top2, low5])

theorem cvBset (rd rs1 : Reg) (is3 is2 : BitVec 5) : Statement (.cvBset rd rs1 is3 is2) :=
  fun _ => (full ..).trans (by simp only [decodeFields, decodeCustom2, top2, low5])

theorem cvBitrev (rd rs1 : Reg) (is3 : BitVec 2) (is2 : BitVec 5) : Statement (.cvBitrev rd rs1 is3 is2) :=
  fun _ => (full ..).trans (by
    simp (disch := omega) only [decodeFields, decodeCustom2, top2, extract_low, BitVec.extractLsb'_append_eq_left]
    rw [BitVec.extractLsb'_eq_self]; rfl)

theorem cvExtractr (rd rs1 rs2 : Reg) : Statement (.cvExtractr rd rs1 rs2) :=
  fun _ => (full ..).trans rfl

theorem cvExtractur (rd rs1 rs2 : Reg) : Statement (.cvExtractur rd rs1 rs2) :=
  fun _ => (full ..).trans rfl

theorem cvInsertr (rd rs1 rs2 : Reg) : Statement (.cvInsertr rd rs1 rs2) :=
  fun _ => (full ..).trans rfl

theorem cvBclrr (rd rs1 rs2 : Reg) : Statement (.cvBclrr rd rs1 rs2) :=
  fun _ => (full ..).trans rfl

theorem cvBsetr (rd rs1 rs2 : Reg) : Statement (.cvBsetr rd rs1 rs2) :=
  fun _ => (full ..).trans rfl

theorem cvRor (rd rs1 rs2 : Reg) : Statement (.cvRor rd rs1 rs2) :=
  fun _ => (full ..).trans rfl

theorem cvFf1 (rd rs1 : Reg) : Statement (.cvFf1 rd rs1) :=
  fun _ => (full ..).trans rfl

theorem cvFl1 (rd rs1 : Reg) : Statement (.cvFl1 rd rs1) :=
  fun _ => (full ..).trans rfl

theorem cvClb (rd rs1 : Reg) : Statement (.cvClb rd rs1) :=
  fun _ => (full ..).trans rfl

theorem cvCnt (rd rs1 : Reg) : Statement (.cvCnt rd rs1) :=
  fun _ => (full ..).trans rfl

theorem cvAbs (rd rs1 : Reg) : Statement (.cvAbs rd rs1) :=
  fun _ => (full ..).trans rfl

theorem cvSle (rd rs1 rs2 : Reg) : Statement (.cvSle rd rs1 rs2) :=
  fun _ => (full ..).trans rfl

theorem cvSleu (rd rs1 rs2 : Reg) : Statement (.cvSleu rd rs1 rs2) :=
  fun _ => (full ..).trans rfl

theorem cvMin (rd rs1 rs2 : Reg) : Statement (.cvMin rd rs1 rs2) :=
  fun _ => (full ..).trans rfl

theorem cvMinu (rd rs1 rs2 : Reg) : Statement (.cvMinu rd rs1 rs2) :=
  fun _ => (full ..).trans rfl

theorem cvMax (rd rs1 rs2 : Reg) : Statement (.cvMax rd rs1 rs2) :=
  fun _ => (full ..).trans rfl

theorem cvMaxu (rd rs1 rs2 : Reg) : Statement (.cvMaxu rd rs1 rs2) :=
  fun _ => (full ..).trans rfl

theorem cvExths (rd rs1 : Reg) : Statement (.cvExths rd rs1) :=
  fun _ => (full ..).trans rfl

theorem cvExthz (rd rs1 : Reg) : Statement (.cvExthz rd rs1) :=
  fun _ => (full ..).trans rfl

theorem cvExtbs (rd rs1 : Reg) : Statement (.cvExtbs rd rs1) :=
  fun _ => (full ..).trans rfl

theorem cvExtbz (rd rs1 : Reg) : Statement (.cvExtbz rd rs1) :=
  fun _ => (full ..).trans rfl

theorem cvClip (rd rs1 : Reg) (is2 : BitVec 5) : Statement (.cvClip rd rs1 is2) :=
  fun _ => (full ..).trans rfl

theorem cvClipu (rd rs1 : Reg) (is2 : BitVec 5) : Statement (.cvClipu rd rs1 is2) :=
  fun _ => (full ..).trans rfl

theorem cvClipr (rd rs1 rs2 : Reg) : Statement (.cvClipr rd rs1 rs2) :=
  fun _ => (full ..).trans rfl

theorem cvClipur (rd rs1 rs2 : Reg) : Statement (.cvClipur rd rs1 rs2) :=
  fun _ => (full ..).trans rfl

theorem cvAddN (rd rs1 rs2 : Reg) (is3 : BitVec 5) : Statement (.cvAddN rd rs1 rs2 is3) :=
  fun _ => (full ..).trans (by simp only [decodeFields, decodeCustom2, top2, low5])

theorem cvAdduN (rd rs1 rs2 : Reg) (is3 : BitVec 5) : Statement (.cvAdduN rd rs1 rs2 is3) :=
  fun _ => (full ..).trans (by simp only [decodeFields, decodeCustom2, top2, low5])

theorem cvAddRN (rd rs1 rs2 : Reg) (is3 : BitVec 5) : Statement (.cvAddRN rd rs1 rs2 is3) :=
  fun _ => (full ..).trans (by simp only [decodeFields, decodeCustom2, top2, low5])

theorem cvAdduRN (rd rs1 rs2 : Reg) (is3 : BitVec 5) : Statement (.cvAdduRN rd rs1 rs2 is3) :=
  fun _ => (full ..).trans (by simp only [decodeFields, decodeCustom2, top2, low5])

theorem cvSubN (rd rs1 rs2 : Reg) (is3 : BitVec 5) : Statement (.cvSubN rd rs1 rs2 is3) :=
  fun _ => (full ..).trans (by simp only [decodeFields, decodeCustom2, top2, low5])

theorem cvSubuN (rd rs1 rs2 : Reg) (is3 : BitVec 5) : Statement (.cvSubuN rd rs1 rs2 is3) :=
  fun _ => (full ..).trans (by simp only [decodeFields, decodeCustom2, top2, low5])

theorem cvSubRN (rd rs1 rs2 : Reg) (is3 : BitVec 5) : Statement (.cvSubRN rd rs1 rs2 is3) :=
  fun _ => (full ..).trans (by simp only [decodeFields, decodeCustom2, top2, low5])

theorem cvSubuRN (rd rs1 rs2 : Reg) (is3 : BitVec 5) : Statement (.cvSubuRN rd rs1 rs2 is3) :=
  fun _ => (full ..).trans (by simp only [decodeFields, decodeCustom2, top2, low5])

theorem cvAddNr (rd rs1 rs2 : Reg) : Statement (.cvAddNr rd rs1 rs2) :=
  fun _ => (full ..).trans rfl

theorem cvAdduNr (rd rs1 rs2 : Reg) : Statement (.cvAdduNr rd rs1 rs2) :=
  fun _ => (full ..).trans rfl

theorem cvAddRNr (rd rs1 rs2 : Reg) : Statement (.cvAddRNr rd rs1 rs2) :=
  fun _ => (full ..).trans rfl

theorem cvAdduRNr (rd rs1 rs2 : Reg) : Statement (.cvAdduRNr rd rs1 rs2) :=
  fun _ => (full ..).trans rfl

theorem cvSubNr (rd rs1 rs2 : Reg) : Statement (.cvSubNr rd rs1 rs2) :=
  fun _ => (full ..).trans rfl

theorem cvSubuNr (rd rs1 rs2 : Reg) : Statement (.cvSubuNr rd rs1 rs2) :=
  fun _ => (full ..).trans rfl

theorem cvSubRNr (rd rs1 rs2 : Reg) : Statement (.cvSubRNr rd rs1 rs2) :=
  fun _ => (full ..).trans rfl

theorem cvSubuRNr (rd rs1 rs2 : Reg) : Statement (.cvSubuRNr rd rs1 rs2) :=
  fun _ => (full ..).trans rfl

theorem cvBeqimm (rs1 : Reg) (imm5 : BitVec 5) (imm : BitVec 12) : Statement (.cvBeqimm rs1 imm5 imm) :=
  fun _ => (full ..).trans (congrArg (fun v => Except.ok (Instr.cvBeqimm rs1 imm5 v)) (immB_enc imm))

theorem cvBneimm (rs1 : Reg) (imm5 : BitVec 5) (imm : BitVec 12) : Statement (.cvBneimm rs1 imm5 imm) :=
  fun _ => (full ..).trans (congrArg (fun v => Except.ok (Instr.cvBneimm rs1 imm5 v)) (immB_enc imm))

theorem cvMuluN (rd rs1 rs2 : Reg) (is3 : BitVec 5) : Statement (.cvMuluN rd rs1 rs2 is3) :=
  fun _ => (full ..).trans (by simp only [decodeFields, decodeCustom2, top2, low5])

theorem cvMulhhuN (rd rs1 rs2 : Reg) (is3 : BitVec 5) : Statement (.cvMulhhuN rd rs1 rs2 is3) :=
  fun _ => (full ..).trans (by simp only [decodeFields, decodeCustom2, top2, low5])

theorem cvMulsN (rd rs1 rs2 : Reg) (is3 : BitVec 5) : Statement (.cvMulsN rd rs1 rs2 is3) :=
  fun _ => (full ..).trans (by simp only [decodeFields, decodeCustom2, top2, low5])

theorem cvMulhhsN (rd rs1 rs2 : Reg) (is3 : BitVec 5) : Statement (.cvMulhhsN rd rs1 rs2 is3) :=
  fun _ => (full ..).trans (by simp only [decodeFields, decodeCustom2, top2, low5])

theorem cvMuluRN (rd rs1 rs2 : Reg) (is3 : BitVec 5) : Statement (.cvMuluRN rd rs1 rs2 is3) :=
  fun _ => (full ..).trans (by simp only [decodeFields, decodeCustom2, top2, low5])

theorem cvMulhhuRN (rd rs1 rs2 : Reg) (is3 : BitVec 5) : Statement (.cvMulhhuRN rd rs1 rs2 is3) :=
  fun _ => (full ..).trans (by simp only [decodeFields, decodeCustom2, top2, low5])

theorem cvMulsRN (rd rs1 rs2 : Reg) (is3 : BitVec 5) : Statement (.cvMulsRN rd rs1 rs2 is3) :=
  fun _ => (full ..).trans (by simp only [decodeFields, decodeCustom2, top2, low5])

theorem cvMulhhsRN (rd rs1 rs2 : Reg) (is3 : BitVec 5) : Statement (.cvMulhhsRN rd rs1 rs2 is3) :=
  fun _ => (full ..).trans (by simp only [decodeFields, decodeCustom2, top2, low5])

theorem cvMacuN (rd rs1 rs2 : Reg) (is3 : BitVec 5) : Statement (.cvMacuN rd rs1 rs2 is3) :=
  fun _ => (full ..).trans (by simp only [decodeFields, decodeCustom2, top2, low5])

theorem cvMachhuN (rd rs1 rs2 : Reg) (is3 : BitVec 5) : Statement (.cvMachhuN rd rs1 rs2 is3) :=
  fun _ => (full ..).trans (by simp only [decodeFields, decodeCustom2, top2, low5])

theorem cvMacsN (rd rs1 rs2 : Reg) (is3 : BitVec 5) : Statement (.cvMacsN rd rs1 rs2 is3) :=
  fun _ => (full ..).trans (by simp only [decodeFields, decodeCustom2, top2, low5])

theorem cvMachhsN (rd rs1 rs2 : Reg) (is3 : BitVec 5) : Statement (.cvMachhsN rd rs1 rs2 is3) :=
  fun _ => (full ..).trans (by simp only [decodeFields, decodeCustom2, top2, low5])

theorem cvMacuRN (rd rs1 rs2 : Reg) (is3 : BitVec 5) : Statement (.cvMacuRN rd rs1 rs2 is3) :=
  fun _ => (full ..).trans (by simp only [decodeFields, decodeCustom2, top2, low5])

theorem cvMachhuRN (rd rs1 rs2 : Reg) (is3 : BitVec 5) : Statement (.cvMachhuRN rd rs1 rs2 is3) :=
  fun _ => (full ..).trans (by simp only [decodeFields, decodeCustom2, top2, low5])

theorem cvMacsRN (rd rs1 rs2 : Reg) (is3 : BitVec 5) : Statement (.cvMacsRN rd rs1 rs2 is3) :=
  fun _ => (full ..).trans (by simp only [decodeFields, decodeCustom2, top2, low5])

theorem cvMachhsRN (rd rs1 rs2 : Reg) (is3 : BitVec 5) : Statement (.cvMachhsRN rd rs1 rs2 is3) :=
  fun _ => (full ..).trans (by simp only [decodeFields, decodeCustom2, top2, low5])

theorem cvMac (rd rs1 rs2 : Reg) : Statement (.cvMac rd rs1 rs2) :=
  fun _ => (full ..).trans rfl

theorem cvMsu (rd rs1 rs2 : Reg) : Statement (.cvMsu rd rs1 rs2) :=
  fun _ => (full ..).trans rfl

theorem cvAddH (rd rs1 rs2 : Reg) : Statement (.cvAddH rd rs1 rs2) :=
  fun _ => (simd ..).trans rfl

theorem cvAddScH (rd rs1 rs2 : Reg) : Statement (.cvAddScH rd rs1 rs2) :=
  fun _ => (simd ..).trans rfl

theorem cvAddSciH (rd rs1 : Reg) (imm6 : BitVec 6) : Statement (.cvAddSciH rd rs1 imm6) :=
  fun _ => (simd ..).trans (congrArg (fun v => Except.ok (Instr.cvAddSciH rd rs1 v)) (imm6_enc imm6))

theorem cvAddB (rd rs1 rs2 : Reg) : Statement (.cvAddB rd rs1 rs2) :=
  fun _ => (simd ..).trans rfl

theorem cvAddScB (rd rs1 rs2 : Reg) : Statement (.cvAddScB rd rs1 rs2) :=
  fun _ => (simd ..).trans rfl

theorem cvAddSciB (rd rs1 : Reg) (imm6 : BitVec 6) : Statement (.cvAddSciB rd rs1 imm6) :=
  fun _ => (simd ..).trans (congrArg (fun v => Except.ok (Instr.cvAddSciB rd rs1 v)) (imm6_enc imm6))

theorem cvSubH (rd rs1 rs2 : Reg) : Statement (.cvSubH rd rs1 rs2) :=
  fun _ => (simd ..).trans rfl

theorem cvSubScH (rd rs1 rs2 : Reg) : Statement (.cvSubScH rd rs1 rs2) :=
  fun _ => (simd ..).trans rfl

theorem cvSubSciH (rd rs1 : Reg) (imm6 : BitVec 6) : Statement (.cvSubSciH rd rs1 imm6) :=
  fun _ => (simd ..).trans (congrArg (fun v => Except.ok (Instr.cvSubSciH rd rs1 v)) (imm6_enc imm6))

theorem cvSubB (rd rs1 rs2 : Reg) : Statement (.cvSubB rd rs1 rs2) :=
  fun _ => (simd ..).trans rfl

theorem cvSubScB (rd rs1 rs2 : Reg) : Statement (.cvSubScB rd rs1 rs2) :=
  fun _ => (simd ..).trans rfl

theorem cvSubSciB (rd rs1 : Reg) (imm6 : BitVec 6) : Statement (.cvSubSciB rd rs1 imm6) :=
  fun _ => (simd ..).trans (congrArg (fun v => Except.ok (Instr.cvSubSciB rd rs1 v)) (imm6_enc imm6))

theorem cvAvgH (rd rs1 rs2 : Reg) : Statement (.cvAvgH rd rs1 rs2) :=
  fun _ => (simd ..).trans rfl

theorem cvAvgScH (rd rs1 rs2 : Reg) : Statement (.cvAvgScH rd rs1 rs2) :=
  fun _ => (simd ..).trans rfl

theorem cvAvgSciH (rd rs1 : Reg) (imm6 : BitVec 6) : Statement (.cvAvgSciH rd rs1 imm6) :=
  fun _ => (simd ..).trans (congrArg (fun v => Except.ok (Instr.cvAvgSciH rd rs1 v)) (imm6_enc imm6))

theorem cvAvgB (rd rs1 rs2 : Reg) : Statement (.cvAvgB rd rs1 rs2) :=
  fun _ => (simd ..).trans rfl

theorem cvAvgScB (rd rs1 rs2 : Reg) : Statement (.cvAvgScB rd rs1 rs2) :=
  fun _ => (simd ..).trans rfl

theorem cvAvgSciB (rd rs1 : Reg) (imm6 : BitVec 6) : Statement (.cvAvgSciB rd rs1 imm6) :=
  fun _ => (simd ..).trans (congrArg (fun v => Except.ok (Instr.cvAvgSciB rd rs1 v)) (imm6_enc imm6))

theorem cvAvguH (rd rs1 rs2 : Reg) : Statement (.cvAvguH rd rs1 rs2) :=
  fun _ => (simd ..).trans rfl

theorem cvAvguScH (rd rs1 rs2 : Reg) : Statement (.cvAvguScH rd rs1 rs2) :=
  fun _ => (simd ..).trans rfl

theorem cvAvguSciH (rd rs1 : Reg) (imm6 : BitVec 6) : Statement (.cvAvguSciH rd rs1 imm6) :=
  fun _ => (simd ..).trans (congrArg (fun v => Except.ok (Instr.cvAvguSciH rd rs1 v)) (imm6_enc imm6))

theorem cvAvguB (rd rs1 rs2 : Reg) : Statement (.cvAvguB rd rs1 rs2) :=
  fun _ => (simd ..).trans rfl

theorem cvAvguScB (rd rs1 rs2 : Reg) : Statement (.cvAvguScB rd rs1 rs2) :=
  fun _ => (simd ..).trans rfl

theorem cvAvguSciB (rd rs1 : Reg) (imm6 : BitVec 6) : Statement (.cvAvguSciB rd rs1 imm6) :=
  fun _ => (simd ..).trans (congrArg (fun v => Except.ok (Instr.cvAvguSciB rd rs1 v)) (imm6_enc imm6))

theorem cvMinH (rd rs1 rs2 : Reg) : Statement (.cvMinH rd rs1 rs2) :=
  fun _ => (simd ..).trans rfl

theorem cvMinScH (rd rs1 rs2 : Reg) : Statement (.cvMinScH rd rs1 rs2) :=
  fun _ => (simd ..).trans rfl

theorem cvMinSciH (rd rs1 : Reg) (imm6 : BitVec 6) : Statement (.cvMinSciH rd rs1 imm6) :=
  fun _ => (simd ..).trans (congrArg (fun v => Except.ok (Instr.cvMinSciH rd rs1 v)) (imm6_enc imm6))

theorem cvMinB (rd rs1 rs2 : Reg) : Statement (.cvMinB rd rs1 rs2) :=
  fun _ => (simd ..).trans rfl

theorem cvMinScB (rd rs1 rs2 : Reg) : Statement (.cvMinScB rd rs1 rs2) :=
  fun _ => (simd ..).trans rfl

theorem cvMinSciB (rd rs1 : Reg) (imm6 : BitVec 6) : Statement (.cvMinSciB rd rs1 imm6) :=
  fun _ => (simd ..).trans (congrArg (fun v => Except.ok (Instr.cvMinSciB rd rs1 v)) (imm6_enc imm6))

theorem cvMinuH (rd rs1 rs2 : Reg) : Statement (.cvMinuH rd rs1 rs2) :=
  fun _ => (simd ..).trans rfl

theorem cvMinuScH (rd rs1 rs2 : Reg) : Statement (.cvMinuScH rd rs1 rs2) :=
  fun _ => (simd ..).trans rfl

theorem cvMinuSciH (rd rs1 : Reg) (imm6 : BitVec 6) : Statement (.cvMinuSciH rd rs1 imm6) :=
  fun _ => (simd ..).trans (congrArg (fun v => Except.ok (Instr.cvMinuSciH rd rs1 v)) (imm6_enc imm6))

theorem cvMinuB (rd rs1 rs2 : Reg) : Statement (.cvMinuB rd rs1 rs2) :=
  fun _ => (simd ..).trans rfl

theorem cvMinuScB (rd rs1 rs2 : Reg) : Statement (.cvMinuScB rd rs1 rs2) :=
  fun _ => (simd ..).trans rfl

theorem cvMinuSciB (rd rs1 : Reg) (imm6 : BitVec 6) : Statement (.cvMinuSciB rd rs1 imm6) :=
  fun _ => (simd ..).trans (congrArg (fun v => Except.ok (Instr.cvMinuSciB rd rs1 v)) (imm6_enc imm6))

theorem cvMaxH (rd rs1 rs2 : Reg) : Statement (.cvMaxH rd rs1 rs2) :=
  fun _ => (simd ..).trans rfl

theorem cvMaxScH (rd rs1 rs2 : Reg) : Statement (.cvMaxScH rd rs1 rs2) :=
  fun _ => (simd ..).trans rfl

theorem cvMaxSciH (rd rs1 : Reg) (imm6 : BitVec 6) : Statement (.cvMaxSciH rd rs1 imm6) :=
  fun _ => (simd ..).trans (congrArg (fun v => Except.ok (Instr.cvMaxSciH rd rs1 v)) (imm6_enc imm6))

theorem cvMaxB (rd rs1 rs2 : Reg) : Statement (.cvMaxB rd rs1 rs2) :=
  fun _ => (simd ..).trans rfl

theorem cvMaxScB (rd rs1 rs2 : Reg) : Statement (.cvMaxScB rd rs1 rs2) :=
  fun _ => (simd ..).trans rfl

theorem cvMaxSciB (rd rs1 : Reg) (imm6 : BitVec 6) : Statement (.cvMaxSciB rd rs1 imm6) :=
  fun _ => (simd ..).trans (congrArg (fun v => Except.ok (Instr.cvMaxSciB rd rs1 v)) (imm6_enc imm6))

theorem cvMaxuH (rd rs1 rs2 : Reg) : Statement (.cvMaxuH rd rs1 rs2) :=
  fun _ => (simd ..).trans rfl

theorem cvMaxuScH (rd rs1 rs2 : Reg) : Statement (.cvMaxuScH rd rs1 rs2) :=
  fun _ => (simd ..).trans rfl

theorem cvMaxuSciH (rd rs1 : Reg) (imm6 : BitVec 6) : Statement (.cvMaxuSciH rd rs1 imm6) :=
  fun _ => (simd ..).trans (congrArg (fun v => Except.ok (Instr.cvMaxuSciH rd rs1 v)) (imm6_enc imm6))

theorem cvMaxuB (rd rs1 rs2 : Reg) : Statement (.cvMaxuB rd rs1 rs2) :=
  fun _ => (simd ..).trans rfl

theorem cvMaxuScB (rd rs1 rs2 : Reg) : Statement (.cvMaxuScB rd rs1 rs2) :=
  fun _ => (simd ..).trans rfl

theorem cvMaxuSciB (rd rs1 : Reg) (imm6 : BitVec 6) : Statement (.cvMaxuSciB rd rs1 imm6) :=
  fun _ => (simd ..).trans (congrArg (fun v => Except.ok (Instr.cvMaxuSciB rd rs1 v)) (imm6_enc imm6))

theorem cvSrlH (rd rs1 rs2 : Reg) : Statement (.cvSrlH rd rs1 rs2) :=
  fun _ => (simd ..).trans rfl

theorem cvSrlScH (rd rs1 rs2 : Reg) : Statement (.cvSrlScH rd rs1 rs2) :=
  fun _ => (simd ..).trans rfl

theorem cvSrlSciH (rd rs1 : Reg) (imm6 : BitVec 6) : Statement (.cvSrlSciH rd rs1 imm6) :=
  fun _ => (simd ..).trans (congrArg (fun v => Except.ok (Instr.cvSrlSciH rd rs1 v)) (imm6_enc imm6))

theorem cvSrlB (rd rs1 rs2 : Reg) : Statement (.cvSrlB rd rs1 rs2) :=
  fun _ => (simd ..).trans rfl

theorem cvSrlScB (rd rs1 rs2 : Reg) : Statement (.cvSrlScB rd rs1 rs2) :=
  fun _ => (simd ..).trans rfl

theorem cvSrlSciB (rd rs1 : Reg) (imm6 : BitVec 6) : Statement (.cvSrlSciB rd rs1 imm6) :=
  fun _ => (simd ..).trans (congrArg (fun v => Except.ok (Instr.cvSrlSciB rd rs1 v)) (imm6_enc imm6))

theorem cvSraH (rd rs1 rs2 : Reg) : Statement (.cvSraH rd rs1 rs2) :=
  fun _ => (simd ..).trans rfl

theorem cvSraScH (rd rs1 rs2 : Reg) : Statement (.cvSraScH rd rs1 rs2) :=
  fun _ => (simd ..).trans rfl

theorem cvSraSciH (rd rs1 : Reg) (imm6 : BitVec 6) : Statement (.cvSraSciH rd rs1 imm6) :=
  fun _ => (simd ..).trans (congrArg (fun v => Except.ok (Instr.cvSraSciH rd rs1 v)) (imm6_enc imm6))

theorem cvSraB (rd rs1 rs2 : Reg) : Statement (.cvSraB rd rs1 rs2) :=
  fun _ => (simd ..).trans rfl

theorem cvSraScB (rd rs1 rs2 : Reg) : Statement (.cvSraScB rd rs1 rs2) :=
  fun _ => (simd ..).trans rfl

theorem cvSraSciB (rd rs1 : Reg) (imm6 : BitVec 6) : Statement (.cvSraSciB rd rs1 imm6) :=
  fun _ => (simd ..).trans (congrArg (fun v => Except.ok (Instr.cvSraSciB rd rs1 v)) (imm6_enc imm6))

theorem cvSllH (rd rs1 rs2 : Reg) : Statement (.cvSllH rd rs1 rs2) :=
  fun _ => (simd ..).trans rfl

theorem cvSllScH (rd rs1 rs2 : Reg) : Statement (.cvSllScH rd rs1 rs2) :=
  fun _ => (simd ..).trans rfl

theorem cvSllSciH (rd rs1 : Reg) (imm6 : BitVec 6) : Statement (.cvSllSciH rd rs1 imm6) :=
  fun _ => (simd ..).trans (congrArg (fun v => Except.ok (Instr.cvSllSciH rd rs1 v)) (imm6_enc imm6))

theorem cvSllB (rd rs1 rs2 : Reg) : Statement (.cvSllB rd rs1 rs2) :=
  fun _ => (simd ..).trans rfl

theorem cvSllScB (rd rs1 rs2 : Reg) : Statement (.cvSllScB rd rs1 rs2) :=
  fun _ => (simd ..).trans rfl

theorem cvSllSciB (rd rs1 : Reg) (imm6 : BitVec 6) : Statement (.cvSllSciB rd rs1 imm6) :=
  fun _ => (simd ..).trans (congrArg (fun v => Except.ok (Instr.cvSllSciB rd rs1 v)) (imm6_enc imm6))

theorem cvOrH (rd rs1 rs2 : Reg) : Statement (.cvOrH rd rs1 rs2) :=
  fun _ => (simd ..).trans rfl

theorem cvOrScH (rd rs1 rs2 : Reg) : Statement (.cvOrScH rd rs1 rs2) :=
  fun _ => (simd ..).trans rfl

theorem cvOrSciH (rd rs1 : Reg) (imm6 : BitVec 6) : Statement (.cvOrSciH rd rs1 imm6) :=
  fun _ => (simd ..).trans (congrArg (fun v => Except.ok (Instr.cvOrSciH rd rs1 v)) (imm6_enc imm6))

theorem cvOrB (rd rs1 rs2 : Reg) : Statement (.cvOrB rd rs1 rs2) :=
  fun _ => (simd ..).trans rfl

theorem cvOrScB (rd rs1 rs2 : Reg) : Statement (.cvOrScB rd rs1 rs2) :=
  fun _ => (simd ..).trans rfl

theorem cvOrSciB (rd rs1 : Reg) (imm6 : BitVec 6) : Statement (.cvOrSciB rd rs1 imm6) :=
  fun _ => (simd ..).trans (congrArg (fun v => Except.ok (Instr.cvOrSciB rd rs1 v)) (imm6_enc imm6))

theorem cvXorH (rd rs1 rs2 : Reg) : Statement (.cvXorH rd rs1 rs2) :=
  fun _ => (simd ..).trans rfl

theorem cvXorScH (rd rs1 rs2 : Reg) : Statement (.cvXorScH rd rs1 rs2) :=
  fun _ => (simd ..).trans rfl

theorem cvXorSciH (rd rs1 : Reg) (imm6 : BitVec 6) : Statement (.cvXorSciH rd rs1 imm6) :=
  fun _ => (simd ..).trans (congrArg (fun v => Except.ok (Instr.cvXorSciH rd rs1 v)) (imm6_enc imm6))

theorem cvXorB (rd rs1 rs2 : Reg) : Statement (.cvXorB rd rs1 rs2) :=
  fun _ => (simd ..).trans rfl

theorem cvXorScB (rd rs1 rs2 : Reg) : Statement (.cvXorScB rd rs1 rs2) :=
  fun _ => (simd ..).trans rfl

theorem cvXorSciB (rd rs1 : Reg) (imm6 : BitVec 6) : Statement (.cvXorSciB rd rs1 imm6) :=
  fun _ => (simd ..).trans (congrArg (fun v => Except.ok (Instr.cvXorSciB rd rs1 v)) (imm6_enc imm6))

theorem cvAndH (rd rs1 rs2 : Reg) : Statement (.cvAndH rd rs1 rs2) :=
  fun _ => (simd ..).trans rfl

theorem cvAndScH (rd rs1 rs2 : Reg) : Statement (.cvAndScH rd rs1 rs2) :=
  fun _ => (simd ..).trans rfl

theorem cvAndSciH (rd rs1 : Reg) (imm6 : BitVec 6) : Statement (.cvAndSciH rd rs1 imm6) :=
  fun _ => (simd ..).trans (congrArg (fun v => Except.ok (Instr.cvAndSciH rd rs1 v)) (imm6_enc imm6))

theorem cvAndB (rd rs1 rs2 : Reg) : Statement (.cvAndB rd rs1 rs2) :=
  fun _ => (simd ..).trans rfl

theorem cvAndScB (rd rs1 rs2 : Reg) : Statement (.cvAndScB rd rs1 rs2) :=
  fun _ => (simd ..).trans rfl

theorem cvAndSciB (rd rs1 : Reg) (imm6 : BitVec 6) : Statement (.cvAndSciB rd rs1 imm6) :=
  fun _ => (simd ..).trans (congrArg (fun v => Except.ok (Instr.cvAndSciB rd rs1 v)) (imm6_enc imm6))

theorem cvAbsH (rd rs1 : Reg) : Statement (.cvAbsH rd rs1) :=
  fun _ => (simd ..).trans rfl

theorem cvAbsB (rd rs1 : Reg) : Statement (.cvAbsB rd rs1) :=
  fun _ => (simd ..).trans rfl

theorem cvExtractH (rd rs1 : Reg) (imm6 : BitVec 6) : Statement (.cvExtractH rd rs1 imm6) :=
  fun _ => (simd ..).trans (congrArg (fun v => Except.ok (Instr.cvExtractH rd rs1 v)) (imm6_enc imm6))

theorem cvExtractB (rd rs1 : Reg) (imm6 : BitVec 6) : Statement (.cvExtractB rd rs1 imm6) :=
  fun _ => (simd ..).trans (congrArg (fun v => Except.ok (Instr.cvExtractB rd rs1 v)) (imm6_enc imm6))

theorem cvExtractuH (rd rs1 : Reg) (imm6 : BitVec 6) : Statement (.cvExtractuH rd rs1 imm6) :=
  fun _ => (simd ..).trans (congrArg (fun v => Except.ok (Instr.cvExtractuH rd rs1 v)) (imm6_enc imm6))

theorem cvExtractuB (rd rs1 : Reg) (imm6 : BitVec 6) : Statement (.cvExtractuB rd rs1 imm6) :=
  fun _ => (simd ..).trans (congrArg (fun v => Except.ok (Instr.cvExtractuB rd rs1 v)) (imm6_enc imm6))

theorem cvInsertH (rd rs1 : Reg) (imm6 : BitVec 6) : Statement (.cvInsertH rd rs1 imm6) :=
  fun _ => (simd ..).trans (congrArg (fun v => Except.ok (Instr.cvInsertH rd rs1 v)) (imm6_enc imm6))

theorem cvInsertB (rd rs1 : Reg) (imm6 : BitVec 6) : Statement (.cvInsertB rd rs1 imm6) :=
  fun _ => (simd ..).trans (congrArg (fun v => Except.ok (Instr.cvInsertB rd rs1 v)) (imm6_enc imm6))

theorem cvDotupH (rd rs1 rs2 : Reg) : Statement (.cvDotupH rd rs1 rs2) :=
  fun _ => (simd ..).trans rfl

theorem cvDotupScH (rd rs1 rs2 : Reg) : Statement (.cvDotupScH rd rs1 rs2) :=
  fun _ => (simd ..).trans rfl

theorem cvDotupSciH (rd rs1 : Reg) (imm6 : BitVec 6) : Statement (.cvDotupSciH rd rs1 imm6) :=
  fun _ => (simd ..).trans (congrArg (fun v => Except.ok (Instr.cvDotupSciH rd rs1 v)) (imm6_enc imm6))

theorem cvDotupB (rd rs1 rs2 : Reg) : Statement (.cvDotupB rd rs1 rs2) :=
  fun _ => (simd ..).trans rfl

theorem cvDotupScB (rd rs1 rs2 : Reg) : Statement (.cvDotupScB rd rs1 rs2) :=
  fun _ => (simd ..).trans rfl

theorem cvDotupSciB (rd rs1 : Reg) (imm6 : BitVec 6) : Statement (.cvDotupSciB rd rs1 imm6) :=
  fun _ => (simd ..).trans (congrArg (fun v => Except.ok (Instr.cvDotupSciB rd rs1 v)) (imm6_enc imm6))

theorem cvDotuspH (rd rs1 rs2 : Reg) : Statement (.cvDotuspH rd rs1 rs2) :=
  fun _ => (simd ..).trans rfl

theorem cvDotuspScH (rd rs1 rs2 : Reg) : Statement (.cvDotuspScH rd rs1 rs2) :=
  fun _ => (simd ..).trans rfl

theorem cvDotuspSciH (rd rs1 : Reg) (imm6 : BitVec 6) : Statement (.cvDotuspSciH rd rs1 imm6) :=
  fun _ => (simd ..).trans (congrArg (fun v => Except.ok (Instr.cvDotuspSciH rd rs1 v)) (imm6_enc imm6))

theorem cvDotuspB (rd rs1 rs2 : Reg) : Statement (.cvDotuspB rd rs1 rs2) :=
  fun _ => (simd ..).trans rfl

theorem cvDotuspScB (rd rs1 rs2 : Reg) : Statement (.cvDotuspScB rd rs1 rs2) :=
  fun _ => (simd ..).trans rfl

theorem cvDotuspSciB (rd rs1 : Reg) (imm6 : BitVec 6) : Statement (.cvDotuspSciB rd rs1 imm6) :=
  fun _ => (simd ..).trans (congrArg (fun v => Except.ok (Instr.cvDotuspSciB rd rs1 v)) (imm6_enc imm6))

theorem cvDotspH (rd rs1 rs2 : Reg) : Statement (.cvDotspH rd rs1 rs2) :=
  fun _ => (simd ..).trans rfl

theorem cvDotspScH (rd rs1 rs2 : Reg) : Statement (.cvDotspScH rd rs1 rs2) :=
  fun _ => (simd ..).trans rfl

theorem cvDotspSciH (rd rs1 : Reg) (imm6 : BitVec 6) : Statement (.cvDotspSciH rd rs1 imm6) :=
  fun _ => (simd ..).trans (congrArg (fun v => Except.ok (Instr.cvDotspSciH rd rs1 v)) (imm6_enc imm6))

theorem cvDotspB (rd rs1 rs2 : Reg) : Statement (.cvDotspB rd rs1 rs2) :=
  fun _ => (simd ..).trans rfl

theorem cvDotspScB (rd rs1 rs2 : Reg) : Statement (.cvDotspScB rd rs1 rs2) :=
  fun _ => (simd ..).trans rfl

theorem cvDotspSciB (rd rs1 : Reg) (imm6 : BitVec 6) : Statement (.cvDotspSciB rd rs1 imm6) :=
  fun _ => (simd ..).trans (congrArg (fun v => Except.ok (Instr.cvDotspSciB rd rs1 v)) (imm6_enc imm6))

theorem cvSdotupH (rd rs1 rs2 : Reg) : Statement (.cvSdotupH rd rs1 rs2) :=
  fun _ => (simd ..).trans rfl

theorem cvSdotupScH (rd rs1 rs2 : Reg) : Statement (.cvSdotupScH rd rs1 rs2) :=
  fun _ => (simd ..).trans rfl

theorem cvSdotupSciH (rd rs1 : Reg) (imm6 : BitVec 6) : Statement (.cvSdotupSciH rd rs1 imm6) :=
  fun _ => (simd ..).trans (congrArg (fun v => Except.ok (Instr.cvSdotupSciH rd rs1 v)) (imm6_enc imm6))

theorem cvSdotupB (rd rs1 rs2 : Reg) : Statement (.cvSdotupB rd rs1 rs2) :=
  fun _ => (simd ..).trans rfl

theorem cvSdotupScB (rd rs1 rs2 : Reg) : Statement (.cvSdotupScB rd rs1 rs2) :=
  fun _ => (simd ..).trans rfl

theorem cvSdotupSciB (rd rs1 : Reg) (imm6 : BitVec 6) : Statement (.cvSdotupSciB rd rs1 imm6) :=
  fun _ => (simd ..).trans (congrArg (fun v => Except.ok (Instr.cvSdotupSciB rd rs1 v)) (imm6_enc imm6))

theorem cvSdotuspH (rd rs1 rs2 : Reg) : Statement (.cvSdotuspH rd rs1 rs2) :=
  fun _ => (simd ..).trans rfl

theorem cvSdotuspScH (rd rs1 rs2 : Reg) : Statement (.cvSdotuspScH rd rs1 rs2) :=
  fun _ => (simd ..).trans rfl

theorem cvSdotuspSciH (rd rs1 : Reg) (imm6 : BitVec 6) : Statement (.cvSdotuspSciH rd rs1 imm6) :=
  fun _ => (simd ..).trans (congrArg (fun v => Except.ok (Instr.cvSdotuspSciH rd rs1 v)) (imm6_enc imm6))

theorem cvSdotuspB (rd rs1 rs2 : Reg) : Statement (.cvSdotuspB rd rs1 rs2) :=
  fun _ => (simd ..).trans rfl

theorem cvSdotuspScB (rd rs1 rs2 : Reg) : Statement (.cvSdotuspScB rd rs1 rs2) :=
  fun _ => (simd ..).trans rfl

theorem cvSdotuspSciB (rd rs1 : Reg) (imm6 : BitVec 6) : Statement (.cvSdotuspSciB rd rs1 imm6) :=
  fun _ => (simd ..).trans (congrArg (fun v => Except.ok (Instr.cvSdotuspSciB rd rs1 v)) (imm6_enc imm6))

theorem cvSdotspH (rd rs1 rs2 : Reg) : Statement (.cvSdotspH rd rs1 rs2) :=
  fun _ => (simd ..).trans rfl

theorem cvSdotspScH (rd rs1 rs2 : Reg) : Statement (.cvSdotspScH rd rs1 rs2) :=
  fun _ => (simd ..).trans rfl

theorem cvSdotspSciH (rd rs1 : Reg) (imm6 : BitVec 6) : Statement (.cvSdotspSciH rd rs1 imm6) :=
  fun _ => (simd ..).trans (congrArg (fun v => Except.ok (Instr.cvSdotspSciH rd rs1 v)) (imm6_enc imm6))

theorem cvSdotspB (rd rs1 rs2 : Reg) : Statement (.cvSdotspB rd rs1 rs2) :=
  fun _ => (simd ..).trans rfl

theorem cvSdotspScB (rd rs1 rs2 : Reg) : Statement (.cvSdotspScB rd rs1 rs2) :=
  fun _ => (simd ..).trans rfl

theorem cvSdotspSciB (rd rs1 : Reg) (imm6 : BitVec 6) : Statement (.cvSdotspSciB rd rs1 imm6) :=
  fun _ => (simd ..).trans (congrArg (fun v => Except.ok (Instr.cvSdotspSciB rd rs1 v)) (imm6_enc imm6))

theorem cvShuffleH (rd rs1 rs2 : Reg) : Statement (.cvShuffleH rd rs1 rs2) :=
  fun _ => (simd ..).trans rfl

theorem cvShuffleSciH (rd rs1 : Reg) (imm6 : BitVec 6) : Statement (.cvShuffleSciH rd rs1 imm6) :=
  fun _ => (simd ..).trans (congrArg (fun v => Except.ok (Instr.cvShuffleSciH rd rs1 v)) (imm6_enc imm6))

theorem cvShuffleB (rd rs1 rs2 : Reg) : Statement (.cvShuffleB rd rs1 rs2) :=
  fun _ => (simd ..).trans rfl

theorem cvShuffleI0SciB (rd rs1 : Reg) (imm6 : BitVec 6) : Statement (.cvShuffleI0SciB rd rs1 imm6) :=
  fun _ => (simd ..).trans (congrArg (fun v => Except.ok (Instr.cvShuffleI0SciB rd rs1 v)) (imm6_enc imm6))

theorem cvShuffleI1SciB (rd rs1 : Reg) (imm6 : BitVec 6) : Statement (.cvShuffleI1SciB rd rs1 imm6) :=
  fun _ => (simd ..).trans (congrArg (fun v => Except.ok (Instr.cvShuffleI1SciB rd rs1 v)) (imm6_enc imm6))

theorem cvShuffleI2SciB (rd rs1 : Reg) (imm6 : BitVec 6) : Statement (.cvShuffleI2SciB rd rs1 imm6) :=
  fun _ => (simd ..).trans (congrArg (fun v => Except.ok (Instr.cvShuffleI2SciB rd rs1 v)) (imm6_enc imm6))

theorem cvShuffleI3SciB (rd rs1 : Reg) (imm6 : BitVec 6) : Statement (.cvShuffleI3SciB rd rs1 imm6) :=
  fun _ => (simd ..).trans (congrArg (fun v => Except.ok (Instr.cvShuffleI3SciB rd rs1 v)) (imm6_enc imm6))

theorem cvShuffle2H (rd rs1 rs2 : Reg) : Statement (.cvShuffle2H rd rs1 rs2) :=
  fun _ => (simd ..).trans rfl

theorem cvShuffle2B (rd rs1 rs2 : Reg) : Statement (.cvShuffle2B rd rs1 rs2) :=
  fun _ => (simd ..).trans rfl

theorem cvPack (rd rs1 rs2 : Reg) : Statement (.cvPack rd rs1 rs2) :=
  fun _ => (simd ..).trans rfl

theorem cvPackH (rd rs1 rs2 : Reg) : Statement (.cvPackH rd rs1 rs2) :=
  fun _ => (simd ..).trans rfl

theorem cvPackhiB (rd rs1 rs2 : Reg) : Statement (.cvPackhiB rd rs1 rs2) :=
  fun _ => (simd ..).trans rfl

theorem cvPackloB (rd rs1 rs2 : Reg) : Statement (.cvPackloB rd rs1 rs2) :=
  fun _ => (simd ..).trans rfl

theorem cvCmpeqH (rd rs1 rs2 : Reg) : Statement (.cvCmpeqH rd rs1 rs2) :=
  fun _ => (simd ..).trans rfl

theorem cvCmpeqScH (rd rs1 rs2 : Reg) : Statement (.cvCmpeqScH rd rs1 rs2) :=
  fun _ => (simd ..).trans rfl

theorem cvCmpeqSciH (rd rs1 : Reg) (imm6 : BitVec 6) : Statement (.cvCmpeqSciH rd rs1 imm6) :=
  fun _ => (simd ..).trans (congrArg (fun v => Except.ok (Instr.cvCmpeqSciH rd rs1 v)) (imm6_enc imm6))

theorem cvCmpeqB (rd rs1 rs2 : Reg) : Statement (.cvCmpeqB rd rs1 rs2) :=
  fun _ => (simd ..).trans rfl

theorem cvCmpeqScB (rd rs1 rs2 : Reg) : Statement (.cvCmpeqScB rd rs1 rs2) :=
  fun _ => (simd ..).trans rfl

theorem cvCmpeqSciB (rd rs1 : Reg) (imm6 : BitVec 6) : Statement (.cvCmpeqSciB rd rs1 imm6) :=
  fun _ => (simd ..).trans (congrArg (fun v => Except.ok (Instr.cvCmpeqSciB rd rs1 v)) (imm6_enc imm6))

theorem cvCmpneH (rd rs1 rs2 : Reg) : Statement (.cvCmpneH rd rs1 rs2) :=
  fun _ => (simd ..).trans rfl

theorem cvCmpneScH (rd rs1 rs2 : Reg) : Statement (.cvCmpneScH rd rs1 rs2) :=
  fun _ => (simd ..).trans rfl

theorem cvCmpneSciH (rd rs1 : Reg) (imm6 : BitVec 6) : Statement (.cvCmpneSciH rd rs1 imm6) :=
  fun _ => (simd ..).trans (congrArg (fun v => Except.ok (Instr.cvCmpneSciH rd rs1 v)) (imm6_enc imm6))

theorem cvCmpneB (rd rs1 rs2 : Reg) : Statement (.cvCmpneB rd rs1 rs2) :=
  fun _ => (simd ..).trans rfl

theorem cvCmpneScB (rd rs1 rs2 : Reg) : Statement (.cvCmpneScB rd rs1 rs2) :=
  fun _ => (simd ..).trans rfl

theorem cvCmpneSciB (rd rs1 : Reg) (imm6 : BitVec 6) : Statement (.cvCmpneSciB rd rs1 imm6) :=
  fun _ => (simd ..).trans (congrArg (fun v => Except.ok (Instr.cvCmpneSciB rd rs1 v)) (imm6_enc imm6))

theorem cvCmpgtH (rd rs1 rs2 : Reg) : Statement (.cvCmpgtH rd rs1 rs2) :=
  fun _ => (simd ..).trans rfl

theorem cvCmpgtScH (rd rs1 rs2 : Reg) : Statement (.cvCmpgtScH rd rs1 rs2) :=
  fun _ => (simd ..).trans rfl

theorem cvCmpgtSciH (rd rs1 : Reg) (imm6 : BitVec 6) : Statement (.cvCmpgtSciH rd rs1 imm6) :=
  fun _ => (simd ..).trans (congrArg (fun v => Except.ok (Instr.cvCmpgtSciH rd rs1 v)) (imm6_enc imm6))

theorem cvCmpgtB (rd rs1 rs2 : Reg) : Statement (.cvCmpgtB rd rs1 rs2) :=
  fun _ => (simd ..).trans rfl

theorem cvCmpgtScB (rd rs1 rs2 : Reg) : Statement (.cvCmpgtScB rd rs1 rs2) :=
  fun _ => (simd ..).trans rfl

theorem cvCmpgtSciB (rd rs1 : Reg) (imm6 : BitVec 6) : Statement (.cvCmpgtSciB rd rs1 imm6) :=
  fun _ => (simd ..).trans (congrArg (fun v => Except.ok (Instr.cvCmpgtSciB rd rs1 v)) (imm6_enc imm6))

theorem cvCmpgeH (rd rs1 rs2 : Reg) : Statement (.cvCmpgeH rd rs1 rs2) :=
  fun _ => (simd ..).trans rfl

theorem cvCmpgeScH (rd rs1 rs2 : Reg) : Statement (.cvCmpgeScH rd rs1 rs2) :=
  fun _ => (simd ..).trans rfl

theorem cvCmpgeSciH (rd rs1 : Reg) (imm6 : BitVec 6) : Statement (.cvCmpgeSciH rd rs1 imm6) :=
  fun _ => (simd ..).trans (congrArg (fun v => Except.ok (Instr.cvCmpgeSciH rd rs1 v)) (imm6_enc imm6))

theorem cvCmpgeB (rd rs1 rs2 : Reg) : Statement (.cvCmpgeB rd rs1 rs2) :=
  fun _ => (simd ..).trans rfl

theorem cvCmpgeScB (rd rs1 rs2 : Reg) : Statement (.cvCmpgeScB rd rs1 rs2) :=
  fun _ => (simd ..).trans rfl

theorem cvCmpgeSciB (rd rs1 : Reg) (imm6 : BitVec 6) : Statement (.cvCmpgeSciB rd rs1 imm6) :=
  fun _ => (simd ..).trans (congrArg (fun v => Except.ok (Instr.cvCmpgeSciB rd rs1 v)) (imm6_enc imm6))

theorem cvCmpltH (rd rs1 rs2 : Reg) : Statement (.cvCmpltH rd rs1 rs2) :=
  fun _ => (simd ..).trans rfl

theorem cvCmpltScH (rd rs1 rs2 : Reg) : Statement (.cvCmpltScH rd rs1 rs2) :=
  fun _ => (simd ..).trans rfl

theorem cvCmpltSciH (rd rs1 : Reg) (imm6 : BitVec 6) : Statement (.cvCmpltSciH rd rs1 imm6) :=
  fun _ => (simd ..).trans (congrArg (fun v => Except.ok (Instr.cvCmpltSciH rd rs1 v)) (imm6_enc imm6))

theorem cvCmpltB (rd rs1 rs2 : Reg) : Statement (.cvCmpltB rd rs1 rs2) :=
  fun _ => (simd ..).trans rfl

theorem cvCmpltScB (rd rs1 rs2 : Reg) : Statement (.cvCmpltScB rd rs1 rs2) :=
  fun _ => (simd ..).trans rfl

theorem cvCmpltSciB (rd rs1 : Reg) (imm6 : BitVec 6) : Statement (.cvCmpltSciB rd rs1 imm6) :=
  fun _ => (simd ..).trans (congrArg (fun v => Except.ok (Instr.cvCmpltSciB rd rs1 v)) (imm6_enc imm6))

theorem cvCmpleH (rd rs1 rs2 : Reg) : Statement (.cvCmpleH rd rs1 rs2) :=
  fun _ => (simd ..).trans rfl

theorem cvCmpleScH (rd rs1 rs2 : Reg) : Statement (.cvCmpleScH rd rs1 rs2) :=
  fun _ => (simd ..).trans rfl

theorem cvCmpleSciH (rd rs1 : Reg) (imm6 : BitVec 6) : Statement (.cvCmpleSciH rd rs1 imm6) :=
  fun _ => (simd ..).trans (congrArg (fun v => Except.ok (Instr.cvCmpleSciH rd rs1 v)) (imm6_enc imm6))

theorem cvCmpleB (rd rs1 rs2 : Reg) : Statement (.cvCmpleB rd rs1 rs2) :=
  fun _ => (simd ..).trans rfl

theorem cvCmpleScB (rd rs1 rs2 : Reg) : Statement (.cvCmpleScB rd rs1 rs2) :=
  fun _ => (simd ..).trans rfl

theorem cvCmpleSciB (rd rs1 : Reg) (imm6 : BitVec 6) : Statement (.cvCmpleSciB rd rs1 imm6) :=
  fun _ => (simd ..).trans (congrArg (fun v => Except.ok (Instr.cvCmpleSciB rd rs1 v)) (imm6_enc imm6))

theorem cvCmpgtuH (rd rs1 rs2 : Reg) : Statement (.cvCmpgtuH rd rs1 rs2) :=
  fun _ => (simd ..).trans rfl

theorem cvCmpgtuScH (rd rs1 rs2 : Reg) : Statement (.cvCmpgtuScH rd rs1 rs2) :=
  fun _ => (simd ..).trans rfl

theorem cvCmpgtuSciH (rd rs1 : Reg) (imm6 : BitVec 6) : Statement (.cvCmpgtuSciH rd rs1 imm6) :=
  fun _ => (simd ..).trans (congrArg (fun v => Except.ok (Instr.cvCmpgtuSciH rd rs1 v)) (imm6_enc imm6))

theorem cvCmpgtuB (rd rs1 rs2 : Reg) : Statement (.cvCmpgtuB rd rs1 rs2) :=
  fun _ => (simd ..).trans rfl

theorem cvCmpgtuScB (rd rs1 rs2 : Reg) : Statement (.cvCmpgtuScB rd rs1 rs2) :=
  fun _ => (simd ..).trans rfl

theorem cvCmpgtuSciB (rd rs1 : Reg) (imm6 : BitVec 6) : Statement (.cvCmpgtuSciB rd rs1 imm6) :=
  fun _ => (simd ..).trans (congrArg (fun v => Except.ok (Instr.cvCmpgtuSciB rd rs1 v)) (imm6_enc imm6))

theorem cvCmpgeuH (rd rs1 rs2 : Reg) : Statement (.cvCmpgeuH rd rs1 rs2) :=
  fun _ => (simd ..).trans rfl

theorem cvCmpgeuScH (rd rs1 rs2 : Reg) : Statement (.cvCmpgeuScH rd rs1 rs2) :=
  fun _ => (simd ..).trans rfl

theorem cvCmpgeuSciH (rd rs1 : Reg) (imm6 : BitVec 6) : Statement (.cvCmpgeuSciH rd rs1 imm6) :=
  fun _ => (simd ..).trans (congrArg (fun v => Except.ok (Instr.cvCmpgeuSciH rd rs1 v)) (imm6_enc imm6))

theorem cvCmpgeuB (rd rs1 rs2 : Reg) : Statement (.cvCmpgeuB rd rs1 rs2) :=
  fun _ => (simd ..).trans rfl

theorem cvCmpgeuScB (rd rs1 rs2 : Reg) : Statement (.cvCmpgeuScB rd rs1 rs2) :=
  fun _ => (simd ..).trans rfl

theorem cvCmpgeuSciB (rd rs1 : Reg) (imm6 : BitVec 6) : Statement (.cvCmpgeuSciB rd rs1 imm6) :=
  fun _ => (simd ..).trans (congrArg (fun v => Except.ok (Instr.cvCmpgeuSciB rd rs1 v)) (imm6_enc imm6))

theorem cvCmpltuH (rd rs1 rs2 : Reg) : Statement (.cvCmpltuH rd rs1 rs2) :=
  fun _ => (simd ..).trans rfl

theorem cvCmpltuScH (rd rs1 rs2 : Reg) : Statement (.cvCmpltuScH rd rs1 rs2) :=
  fun _ => (simd ..).trans rfl

theorem cvCmpltuSciH (rd rs1 : Reg) (imm6 : BitVec 6) : Statement (.cvCmpltuSciH rd rs1 imm6) :=
  fun _ => (simd ..).trans (congrArg (fun v => Except.ok (Instr.cvCmpltuSciH rd rs1 v)) (imm6_enc imm6))

theorem cvCmpltuB (rd rs1 rs2 : Reg) : Statement (.cvCmpltuB rd rs1 rs2) :=
  fun _ => (simd ..).trans rfl

theorem cvCmpltuScB (rd rs1 rs2 : Reg) : Statement (.cvCmpltuScB rd rs1 rs2) :=
  fun _ => (simd ..).trans rfl

theorem cvCmpltuSciB (rd rs1 : Reg) (imm6 : BitVec 6) : Statement (.cvCmpltuSciB rd rs1 imm6) :=
  fun _ => (simd ..).trans (congrArg (fun v => Except.ok (Instr.cvCmpltuSciB rd rs1 v)) (imm6_enc imm6))

theorem cvCmpleuH (rd rs1 rs2 : Reg) : Statement (.cvCmpleuH rd rs1 rs2) :=
  fun _ => (simd ..).trans rfl

theorem cvCmpleuScH (rd rs1 rs2 : Reg) : Statement (.cvCmpleuScH rd rs1 rs2) :=
  fun _ => (simd ..).trans rfl

theorem cvCmpleuSciH (rd rs1 : Reg) (imm6 : BitVec 6) : Statement (.cvCmpleuSciH rd rs1 imm6) :=
  fun _ => (simd ..).trans (congrArg (fun v => Except.ok (Instr.cvCmpleuSciH rd rs1 v)) (imm6_enc imm6))

theorem cvCmpleuB (rd rs1 rs2 : Reg) : Statement (.cvCmpleuB rd rs1 rs2) :=
  fun _ => (simd ..).trans rfl

theorem cvCmpleuScB (rd rs1 rs2 : Reg) : Statement (.cvCmpleuScB rd rs1 rs2) :=
  fun _ => (simd ..).trans rfl

theorem cvCmpleuSciB (rd rs1 : Reg) (imm6 : BitVec 6) : Statement (.cvCmpleuSciB rd rs1 imm6) :=
  fun _ => (simd ..).trans (congrArg (fun v => Except.ok (Instr.cvCmpleuSciB rd rs1 v)) (imm6_enc imm6))

theorem cvCplxmulR (rd rs1 rs2 : Reg) : Statement (.cvCplxmulR rd rs1 rs2) :=
  fun _ => (simd ..).trans rfl

theorem cvCplxmulRDiv2 (rd rs1 rs2 : Reg) : Statement (.cvCplxmulRDiv2 rd rs1 rs2) :=
  fun _ => (simd ..).trans rfl

theorem cvCplxmulRDiv4 (rd rs1 rs2 : Reg) : Statement (.cvCplxmulRDiv4 rd rs1 rs2) :=
  fun _ => (simd ..).trans rfl

theorem cvCplxmulRDiv8 (rd rs1 rs2 : Reg) : Statement (.cvCplxmulRDiv8 rd rs1 rs2) :=
  fun _ => (simd ..).trans rfl

theorem cvCplxmulI (rd rs1 rs2 : Reg) : Statement (.cvCplxmulI rd rs1 rs2) :=
  fun _ => (simd ..).trans rfl

theorem cvCplxmulIDiv2 (rd rs1 rs2 : Reg) : Statement (.cvCplxmulIDiv2 rd rs1 rs2) :=
  fun _ => (simd ..).trans rfl

theorem cvCplxmulIDiv4 (rd rs1 rs2 : Reg) : Statement (.cvCplxmulIDiv4 rd rs1 rs2) :=
  fun _ => (simd ..).trans rfl

theorem cvCplxmulIDiv8 (rd rs1 rs2 : Reg) : Statement (.cvCplxmulIDiv8 rd rs1 rs2) :=
  fun _ => (simd ..).trans rfl

theorem cvCplxconj (rd rs1 : Reg) : Statement (.cvCplxconj rd rs1) :=
  fun _ => (simd ..).trans rfl

theorem cvSubrotmj (rd rs1 rs2 : Reg) : Statement (.cvSubrotmj rd rs1 rs2) :=
  fun _ => (simd ..).trans rfl

theorem cvSubrotmjDiv2 (rd rs1 rs2 : Reg) : Statement (.cvSubrotmjDiv2 rd rs1 rs2) :=
  fun _ => (simd ..).trans rfl

theorem cvSubrotmjDiv4 (rd rs1 rs2 : Reg) : Statement (.cvSubrotmjDiv4 rd rs1 rs2) :=
  fun _ => (simd ..).trans rfl

theorem cvSubrotmjDiv8 (rd rs1 rs2 : Reg) : Statement (.cvSubrotmjDiv8 rd rs1 rs2) :=
  fun _ => (simd ..).trans rfl

theorem cvAddDiv2 (rd rs1 rs2 : Reg) : Statement (.cvAddDiv2 rd rs1 rs2) :=
  fun _ => (simd ..).trans rfl

theorem cvAddDiv4 (rd rs1 rs2 : Reg) : Statement (.cvAddDiv4 rd rs1 rs2) :=
  fun _ => (simd ..).trans rfl

theorem cvAddDiv8 (rd rs1 rs2 : Reg) : Statement (.cvAddDiv8 rd rs1 rs2) :=
  fun _ => (simd ..).trans rfl

theorem cvSubDiv2 (rd rs1 rs2 : Reg) : Statement (.cvSubDiv2 rd rs1 rs2) :=
  fun _ => (simd ..).trans rfl

theorem cvSubDiv4 (rd rs1 rs2 : Reg) : Statement (.cvSubDiv4 rd rs1 rs2) :=
  fun _ => (simd ..).trans rfl

theorem cvSubDiv8 (rd rs1 rs2 : Reg) : Statement (.cvSubDiv8 rd rs1 rs2) :=
  fun _ => (simd ..).trans rfl

theorem cAddi4spn (rd : Reg3) (imm : BitVec 8) : Statement (.cAddi4spn rd imm) := by
  intro h
  refine (half ..).trans ?_
  simp_all [decodeFields16, decodeQ0, decodeQ1, decodeQ2, decodeQ1Alu, unlessReserved, Instr.wellFormed, immCiw_enc, immCl_enc,
    immCj_enc, immCb_enc, immCi_enc, immAddi16sp_enc, immLwsp_enc, immSwsp_enc, low3, high2]

theorem cLw (rd rs1 : Reg3) (imm : BitVec 5) : Statement (.cLw rd rs1 imm) := by
  intro h
  refine (half ..).trans ?_
  simp_all [decodeFields16, decodeQ0, decodeQ1, decodeQ2, decodeQ1Alu, unlessReserved, Instr.wellFormed, immCiw_enc, immCl_enc,
    immCj_enc, immCb_enc, immCi_enc, immAddi16sp_enc, immLwsp_enc, immSwsp_enc, low3, high2]

theorem cSw (rs2 rs1 : Reg3) (imm : BitVec 5) : Statement (.cSw rs2 rs1 imm) := by
  intro h
  refine (half ..).trans ?_
  simp_all [decodeFields16, decodeQ0, decodeQ1, decodeQ2, decodeQ1Alu, unlessReserved, Instr.wellFormed, immCiw_enc, immCl_enc,
    immCj_enc, immCb_enc, immCi_enc, immAddi16sp_enc, immLwsp_enc, immSwsp_enc, low3, high2]

theorem cFlw (rd rs1 : Reg3) (imm : BitVec 5) : Statement (.cFlw rd rs1 imm) := by
  intro h
  refine (half ..).trans ?_
  simp_all [decodeFields16, decodeQ0, decodeQ1, decodeQ2, decodeQ1Alu, unlessReserved, Instr.wellFormed, immCiw_enc, immCl_enc,
    immCj_enc, immCb_enc, immCi_enc, immAddi16sp_enc, immLwsp_enc, immSwsp_enc, low3, high2]

theorem cFsw (rs2 rs1 : Reg3) (imm : BitVec 5) : Statement (.cFsw rs2 rs1 imm) := by
  intro h
  refine (half ..).trans ?_
  simp_all [decodeFields16, decodeQ0, decodeQ1, decodeQ2, decodeQ1Alu, unlessReserved, Instr.wellFormed, immCiw_enc, immCl_enc,
    immCj_enc, immCb_enc, immCi_enc, immAddi16sp_enc, immLwsp_enc, immSwsp_enc, low3, high2]

theorem cNop (imm : BitVec 6) : Statement (.cNop imm) := by
  intro h
  refine (half ..).trans ?_
  simp_all [decodeFields16, decodeQ0, decodeQ1, decodeQ2, decodeQ1Alu, unlessReserved, Instr.wellFormed, immCiw_enc, immCl_enc,
    immCj_enc, immCb_enc, immCi_enc, immAddi16sp_enc, immLwsp_enc, immSwsp_enc, low3, high2]

theorem cAddi (rd : Reg) (imm : BitVec 6) : Statement (.cAddi rd imm) := by
  intro h
  refine (half ..).trans ?_
  simp_all [decodeFields16, decodeQ0, decodeQ1, decodeQ2, decodeQ1Alu, unlessReserved, Instr.wellFormed, immCiw_enc, immCl_enc,
    immCj_enc, immCb_enc, immCi_enc, immAddi16sp_enc, immLwsp_enc, immSwsp_enc, low3, high2]

theorem cJal (imm : BitVec 11) : Statement (.cJal imm) := by
  intro h
  refine (half ..).trans ?_
  simp_all [decodeFields16, decodeQ0, decodeQ1, decodeQ2, decodeQ1Alu, unlessReserved, Instr.wellFormed, immCiw_enc, immCl_enc,
    immCj_enc, immCb_enc, immCi_enc, immAddi16sp_enc, immLwsp_enc, immSwsp_enc, low3, high2]

theorem cLi (rd : Reg) (imm : BitVec 6) : Statement (.cLi rd imm) := by
  intro h
  refine (half ..).trans ?_
  simp_all [decodeFields16, decodeQ0, decodeQ1, decodeQ2, decodeQ1Alu, unlessReserved, Instr.wellFormed, immCiw_enc, immCl_enc,
    immCj_enc, immCb_enc, immCi_enc, immAddi16sp_enc, immLwsp_enc, immSwsp_enc, low3, high2]

theorem cAddi16sp (imm : BitVec 6) : Statement (.cAddi16sp imm) := by
  intro h
  refine (half ..).trans ?_
  simp_all [decodeFields16, decodeQ0, decodeQ1, decodeQ2, decodeQ1Alu, unlessReserved, Instr.wellFormed, immCiw_enc, immCl_enc,
    immCj_enc, immCb_enc, immCi_enc, immAddi16sp_enc, immLwsp_enc, immSwsp_enc, low3, high2]

theorem cLui (rd : Reg) (imm : BitVec 6) : Statement (.cLui rd imm) := by
  intro h
  refine (half ..).trans ?_
  simp_all [decodeFields16, decodeQ0, decodeQ1, decodeQ2, decodeQ1Alu, unlessReserved, Instr.wellFormed, immCiw_enc, immCl_enc,
    immCj_enc, immCb_enc, immCi_enc, immAddi16sp_enc, immLwsp_enc, immSwsp_enc, low3, high2]

theorem cSrli (rd : Reg3) (shamt : BitVec 5) : Statement (.cSrli rd shamt) := by
  intro h
  refine (half ..).trans ?_
  simp_all [decodeFields16, decodeQ0, decodeQ1, decodeQ2, decodeQ1Alu, unlessReserved, Instr.wellFormed, immCiw_enc, immCl_enc,
    immCj_enc, immCb_enc, immCi_enc, immAddi16sp_enc, immLwsp_enc, immSwsp_enc, low3, high2]

theorem cSrai (rd : Reg3) (shamt : BitVec 5) : Statement (.cSrai rd shamt) := by
  intro h
  refine (half ..).trans ?_
  simp_all [decodeFields16, decodeQ0, decodeQ1, decodeQ2, decodeQ1Alu, unlessReserved, Instr.wellFormed, immCiw_enc, immCl_enc,
    immCj_enc, immCb_enc, immCi_enc, immAddi16sp_enc, immLwsp_enc, immSwsp_enc, low3, high2]

theorem cAndi (rd : Reg3) (imm : BitVec 6) : Statement (.cAndi rd imm) := by
  intro h
  refine (half ..).trans ?_
  simp_all [decodeFields16, decodeQ0, decodeQ1, decodeQ2, decodeQ1Alu, unlessReserved, Instr.wellFormed, immCiw_enc, immCl_enc,
    immCj_enc, immCb_enc, immCi_enc, immAddi16sp_enc, immLwsp_enc, immSwsp_enc, low3, high2]

theorem cSub (rd rs2 : Reg3) : Statement (.cSub rd rs2) := by
  intro h
  refine (half ..).trans ?_
  simp_all [decodeFields16, decodeQ0, decodeQ1, decodeQ2, decodeQ1Alu, unlessReserved, Instr.wellFormed, immCiw_enc, immCl_enc,
    immCj_enc, immCb_enc, immCi_enc, immAddi16sp_enc, immLwsp_enc, immSwsp_enc, low3, high2]

theorem cXor (rd rs2 : Reg3) : Statement (.cXor rd rs2) := by
  intro h
  refine (half ..).trans ?_
  simp_all [decodeFields16, decodeQ0, decodeQ1, decodeQ2, decodeQ1Alu, unlessReserved, Instr.wellFormed, immCiw_enc, immCl_enc,
    immCj_enc, immCb_enc, immCi_enc, immAddi16sp_enc, immLwsp_enc, immSwsp_enc, low3, high2]

theorem cOr (rd rs2 : Reg3) : Statement (.cOr rd rs2) := by
  intro h
  refine (half ..).trans ?_
  simp_all [decodeFields16, decodeQ0, decodeQ1, decodeQ2, decodeQ1Alu, unlessReserved, Instr.wellFormed, immCiw_enc, immCl_enc,
    immCj_enc, immCb_enc, immCi_enc, immAddi16sp_enc, immLwsp_enc, immSwsp_enc, low3, high2]

theorem cAnd (rd rs2 : Reg3) : Statement (.cAnd rd rs2) := by
  intro h
  refine (half ..).trans ?_
  simp_all [decodeFields16, decodeQ0, decodeQ1, decodeQ2, decodeQ1Alu, unlessReserved, Instr.wellFormed, immCiw_enc, immCl_enc,
    immCj_enc, immCb_enc, immCi_enc, immAddi16sp_enc, immLwsp_enc, immSwsp_enc, low3, high2]

theorem cJ (imm : BitVec 11) : Statement (.cJ imm) := by
  intro h
  refine (half ..).trans ?_
  simp_all [decodeFields16, decodeQ0, decodeQ1, decodeQ2, decodeQ1Alu, unlessReserved, Instr.wellFormed, immCiw_enc, immCl_enc,
    immCj_enc, immCb_enc, immCi_enc, immAddi16sp_enc, immLwsp_enc, immSwsp_enc, low3, high2]

theorem cBeqz (rs1 : Reg3) (imm : BitVec 8) : Statement (.cBeqz rs1 imm) := by
  intro h
  refine (half ..).trans ?_
  simp_all [decodeFields16, decodeQ0, decodeQ1, decodeQ2, decodeQ1Alu, unlessReserved, Instr.wellFormed, immCiw_enc, immCl_enc,
    immCj_enc, immCb_enc, immCi_enc, immAddi16sp_enc, immLwsp_enc, immSwsp_enc, low3, high2]

theorem cBnez (rs1 : Reg3) (imm : BitVec 8) : Statement (.cBnez rs1 imm) := by
  intro h
  refine (half ..).trans ?_
  simp_all [decodeFields16, decodeQ0, decodeQ1, decodeQ2, decodeQ1Alu, unlessReserved, Instr.wellFormed, immCiw_enc, immCl_enc,
    immCj_enc, immCb_enc, immCi_enc, immAddi16sp_enc, immLwsp_enc, immSwsp_enc, low3, high2]

theorem cSlli (rd : Reg) (shamt : BitVec 5) : Statement (.cSlli rd shamt) :=
  fun _ => (half ..).trans (by
    show unlessReserved (BitVec.extractLsb' 5 1 (0#1 ++ shamt) == 0) (.cSlli rd (BitVec.extractLsb' 0 5 (0#1 ++ shamt))) = _
    rw [BitVec.extractLsb'_append_eq_left (w := 1), BitVec.extractLsb'_append_eq_right (w := 1)]; rfl)

theorem cLwsp (rd : Reg) (imm : BitVec 6) : Statement (.cLwsp rd imm) := by
  intro h
  refine (half ..).trans ?_
  simp_all [decodeFields16, decodeQ0, decodeQ1, decodeQ2, decodeQ1Alu, unlessReserved, Instr.wellFormed, immCiw_enc, immCl_enc,
    immCj_enc, immCb_enc, immCi_enc, immAddi16sp_enc, immLwsp_enc, immSwsp_enc, low3, high2]

theorem cFlwsp (rd : Reg) (imm : BitVec 6) : Statement (.cFlwsp rd imm) := by
  intro h
  refine (half ..).trans ?_
  simp_all [decodeFields16, decodeQ0, decodeQ1, decodeQ2, decodeQ1Alu, unlessReserved, Instr.wellFormed, immCiw_enc, immCl_enc,
    immCj_enc, immCb_enc, immCi_enc, immAddi16sp_enc, immLwsp_enc, immSwsp_enc, low3, high2]

theorem cJr (rs1 : Reg) : Statement (.cJr rs1) := by
  intro h
  refine (half ..).trans ?_
  simp_all [decodeFields16, decodeQ0, decodeQ1, decodeQ2, decodeQ1Alu, unlessReserved, Instr.wellFormed, immCiw_enc, immCl_enc,
    immCj_enc, immCb_enc, immCi_enc, immAddi16sp_enc, immLwsp_enc, immSwsp_enc, low3, high2]

theorem cMv (rd rs2 : Reg) : Statement (.cMv rd rs2) := by
  intro h
  refine (half ..).trans ?_
  simp_all [decodeFields16, decodeQ0, decodeQ1, decodeQ2, decodeQ1Alu, unlessReserved, Instr.wellFormed, immCiw_enc, immCl_enc,
    immCj_enc, immCb_enc, immCi_enc, immAddi16sp_enc, immLwsp_enc, immSwsp_enc, low3, high2]

theorem cEbreak : Statement (.cEbreak) := by
  intro h
  refine (half ..).trans ?_
  simp_all [decodeFields16, decodeQ0, decodeQ1, decodeQ2, decodeQ1Alu, unlessReserved, Instr.wellFormed, immCiw_enc, immCl_enc,
    immCj_enc, immCb_enc, immCi_enc, immAddi16sp_enc, immLwsp_enc, immSwsp_enc, low3, high2]

theorem cJalr (rs1 : Reg) : Statement (.cJalr rs1) := by
  intro h
  refine (half ..).trans ?_
  simp_all [decodeFields16, decodeQ0, decodeQ1, decodeQ2, decodeQ1Alu, unlessReserved, Instr.wellFormed, immCiw_enc, immCl_enc,
    immCj_enc, immCb_enc, immCi_enc, immAddi16sp_enc, immLwsp_enc, immSwsp_enc, low3, high2]

theorem cAdd (rd rs2 : Reg) : Statement (.cAdd rd rs2) := by
  intro h
  refine (half ..).trans ?_
  simp_all [decodeFields16, decodeQ0, decodeQ1, decodeQ2, decodeQ1Alu, unlessReserved, Instr.wellFormed, immCiw_enc, immCl_enc,
    immCj_enc, immCb_enc, immCi_enc, immAddi16sp_enc, immLwsp_enc, immSwsp_enc, low3, high2]

theorem cSwsp (rs2 : Reg) (imm : BitVec 6) : Statement (.cSwsp rs2 imm) := by
  intro h
  refine (half ..).trans ?_
  simp_all [decodeFields16, decodeQ0, decodeQ1, decodeQ2, decodeQ1Alu, unlessReserved, Instr.wellFormed, immCiw_enc, immCl_enc,
    immCj_enc, immCb_enc, immCi_enc, immAddi16sp_enc, immLwsp_enc, immSwsp_enc, low3, high2]

theorem cFswsp (rs2 : Reg) (imm : BitVec 6) : Statement (.cFswsp rs2 imm) := by
  intro h
  refine (half ..).trans ?_
  simp_all [decodeFields16, decodeQ0, decodeQ1, decodeQ2, decodeQ1Alu, unlessReserved, Instr.wellFormed, immCiw_enc, immCl_enc,
    immCj_enc, immCb_enc, immCi_enc, immAddi16sp_enc, immLwsp_enc, immSwsp_enc, low3, high2]

end Sys2Proof.Laws.RoundTrip
end

