-- ==== Sys2Proof/Laws/Step.lean ====
section
/-! SUPPORT. What a step can be, said once for each way it goes: later proofs cite these and do not unfold the step. -/

namespace Sys2Proof.Machine

/-- The step of a hart that runs is that of an awake one. -/
theorem step_of_runs {s : State} (h : Runs s) : step s = s.awakeStep := by
  obtain ⟨hl, hf, hc, hs⟩ := h
  have hg : (s.cfg.corevCluster && !s.pulpClockEn) = false := by
    cases e : s.cfg.corevCluster
    · rfl
    · rw [hc e]; rfl
  have hw : (s.sleeping && !s.wakes) = false := by
    cases e : s.sleeping
    · rfl
    · rw [hs e]; rfl
  unfold step State.runningStep
  rw [hl, hf, hg, hw]
  rfl

theorem State.boundaryOpen_iff {s : State} : s.boundaryOpen = true ↔ Attends s := by
  unfold State.boundaryOpen Attends
  cases s.elwWaiting <;> simp

/-- An event of lines (1) to (4) of R819 takes the place of the instruction. -/
theorem State.awakeStep_of_event {s t : State} (ha : Attends s) (hb : s.beginStep.boundary = some t) :
    s.awakeStep = .next t := by
  unfold State.awakeStep
  dsimp only
  rw [State.boundaryOpen_iff.2 ha, if_pos rfl, hb]

/-- Without one, or where none is looked at, the hart goes on with what waits or with the instruction at the pc. -/
theorem State.awakeStep_of_none {s : State} (hb : Attends s → s.beginStep.boundary = none) :
    s.awakeStep = s.beginStep.goOn s.elwWaiting := by
  unfold State.awakeStep
  dsimp only
  by_cases ha : Attends s
  · rw [hb ha, ite_self]
  · rw [if_neg (fun h => ha (State.boundaryOpen_iff.1 h))]

/-- Before fetch enable a step changes nothing. -/
theorem State.startStep_of_low {s : State} (h : s.fetchEnablePin = false) : s.startStep = .next s := by
  unfold State.startStep; simp [h]

/-- Fetch enable without a debug request sets the latch. -/
theorem State.startStep_of_high {s : State} (h : s.fetchEnablePin = true) (hr : s.debugRequested = false) :
    s.startStep = .next { s with fetchEnabled := true } := by
  unfold State.startStep; rw [h, hr]; rfl

/-- Fetch enable with a debug request is the first step of the running hart. -/
theorem State.startStep_of_request {s : State} (h : s.fetchEnablePin = true) (hr : s.debugRequested = true)
    (hm : s.debugMode = false) : s.startStep = State.runningStep { s with fetchEnabled := true } := by
  unfold State.startStep; rw [h, hr, hm]; rfl

/-- With nothing older kept, a fetch gives what the bus gives (20_memory R151). -/
theorem State.fetchWord_of_fresh {s : State} (h : s.stale = []) (a : Word) : s.fetchWord a = s.codeWord a := by
  unfold State.fetchWord State.oldWords; rw [h]; rfl

end Sys2Proof.Machine
end

