-- ==== Sys2Proof/Tests/Slice0.lean ====
section
/-! SUPPORT. Tests. The expected values are the spec's own: the words and worked examples of its rules and of
spec/95_test_vectors.md. The `test_witness_…` theorems show that the hypotheses of the statements can be met, at the boundary of
each clause. -/

set_option maxRecDepth 100000

namespace Sys2Proof.Tests

open Sys2Proof.Machine

noncomputable section

/-! ### Well-formedness: one ill-formed term per check (30_encoding R171, 41_rv32c R293) -/

theorem test_ill_formed : ([.cAddi4spn 0 0, .cAddi16sp 0, .cLui 2 1, .cLui 3 0, .cAddi 0 1, .cLwsp 0 1, .cJr 0, .cJalr 0,
    .cMv 1 0, .cAdd 1 0] : List Instr).all (fun i => !i.wellFormed) = true := by decide

theorem test_well_formed_boundary : ([.cAddi4spn 0 1, .cAddi16sp 32, .cLui 31 32, .cLui 1 1, .cAddi 1 0, .cLwsp 1 0, .cJr 1,
    .cJalr 31, .cMv 0 1, .cAdd 0 31, .addi 0 0 0] : List Instr).all (fun i => i.wellFormed) = true := by decide

/-! ### Decoding: a word of the spec for every instruction -/

/-- Every word decodes to the instruction beside it, and encodes it. -/
def reads32 (l : List (Word × Instr)) : Bool :=
  l.all fun p => decide (decode32 p.1 = .ok p.2) && decide (encode p.2 = .full p.1)

/-- The same for 16-bit instructions. -/
def reads16 (l : List (BitVec 16 × Instr)) : Bool :=
  l.all fun p => decide (decode16 p.1 = .ok p.2) && decide (encode p.2 = .half p.1)

/-- No word of the list decodes. -/
def rejects (l : List Nat) : Bool :=
  l.all fun n => match decode (BitVec.ofNat 32 n) with
    | .ok _ => false
    | .error _ => true

/-! Words of spec/40_rv32im.md. -/

theorem test_words_rv32i_1 : reads32
    [(0x123452B7, .lui 5 74565), (0x00001097, .auipc 1 1), (0x008000EF, .jal 1 4), (0x00228067, .jalr 0 5 2),
     (0x00208863, .beq 1 2 8), (0xFE051EE3, .bne 10 0 4094), (0x0020C463, .blt 1 2 4), (0x0020D463, .bge 1 2 4),
     (0x0020E463, .bltu 1 2 4), (0x0020F463, .bgeu 1 2 4), (0xFFF30283, .lb 5 6 4095), (0x00231283, .lh 5 6 2),
     (0x00812283, .lw 5 2 8), (0x00034283, .lbu 5 6 0), (0x00035283, .lhu 5 6 0), (0x005301A3, .sb 5 6 3),
     (0x00531023, .sh 5 6 0), (0xFE512E23, .sw 5 2 4092), (0x00000013, .addi 0 0 0), (0xFFF32293, .slti 5 6 4095),
     (0x00133293, .sltiu 5 6 1), (0xFFF34293, .xori 5 6 4095), (0x00F36293, .ori 5 6 15), (0x0FF37293, .andi 5 6 255),
     (0x00431293, .slli 5 6 4)] = true := by decide

theorem test_words_rv32i_2 : reads32
    [(0x01F35293, .srli 5 6 31), (0x40435293, .srai 5 6 4), (0x002081B3, .add 3 1 2), (0x402081B3, .sub 3 1 2),
     (0x002091B3, .sll 3 1 2), (0x0020A1B3, .slt 3 1 2), (0x0020B1B3, .sltu 3 1 2), (0x0020C1B3, .xor 3 1 2),
     (0x0020D1B3, .srl 3 1 2), (0x4020D1B3, .sra 3 1 2), (0x0020E1B3, .or 3 1 2), (0x0020F1B3, .and 3 1 2),
     (0x00000073, .ecall), (0x00100073, .ebreak)] = true := by decide

/-! Words of spec/40_rv32im.md. -/

theorem test_words_rv32m : reads32
    [(0x022081B3, .mul 3 1 2), (0x022091B3, .mulh 3 1 2), (0x0220A1B3, .mulhsu 3 1 2), (0x0220B1B3, .mulhu 3 1 2),
     (0x0220C1B3, .div 3 1 2), (0x0220D1B3, .divu 3 1 2), (0x0220E1B3, .rem 3 1 2), (0x0220F1B3, .remu 3 1 2)] = true := by decide

/-! Words of spec/42_zicsr_zifencei_priv.md. -/

theorem test_words_system : reads32
    [(0x30529073, .csrrw 0 773 5), (0xF1402573, .csrrs 10 3860 0), (0x3002B073, .csrrc 0 768 5),
     (0x3402D073, .csrrwi 0 832 5), (0x30046073, .csrrsi 0 768 8), (0x300472F3, .csrrci 5 768 8),
     (0x0FF0000F, .fence 0xff 0 0), (0x0000100F, .fenceI 0 0 0), (0x30200073, .mret), (0x7B200073, .dret),
     (0x10500073, .wfi)] = true := by decide

/-! Words of spec/43_rv32f_zfinx.md. -/

theorem test_words_rv32f_1 : reads32
    [(0x00852087, .flw 1 10 8), (0xFE112E27, .fsw 1 2 4092), (0x203170C3, .fmaddS 1 2 3 4 7),
     (0x203110C7, .fmsubS 1 2 3 4 1), (0x203170CB, .fnmsubS 1 2 3 4 7), (0x203170CF, .fnmaddS 1 2 3 4 7),
     (0x0020F1D3, .faddS 3 1 2 7), (0x0820F1D3, .fsubS 3 1 2 7), (0x1020F1D3, .fmulS 3 1 2 7),
     (0x1820F1D3, .fdivS 3 1 2 7), (0x5800F1D3, .fsqrtS 3 1 7), (0x202081D3, .fsgnjS 3 1 2), (0x202091D3, .fsgnjnS 3 1 2),
     (0x2020A1D3, .fsgnjxS 3 1 2), (0x282081D3, .fminS 3 1 2), (0x282091D3, .fmaxS 3 1 2), (0xC00092D3, .fcvtWS 5 1 1),
     (0xC01092D3, .fcvtWuS 5 1 1), (0xE00082D3, .fmvXW 5 1), (0xA020A2D3, .feqS 5 1 2), (0xA02092D3, .fltS 5 1 2),
     (0xA02082D3, .fleS 5 1 2), (0xE00092D3, .fclassS 5 1), (0xD002F0D3, .fcvtSW 1 5 7), (0xD012F0D3, .fcvtSWu 1 5 7)] = true := by decide

theorem test_words_rv32f_2 : reads32
    [(0xF00280D3, .fmvWX 1 5)] = true := by decide

/-! Words of spec/41_rv32c.md. -/

theorem test_words_rv32c_1 : reads16
    [(0x0800, .cAddi4spn 0 4), (0x4144, .cLw 1 2 1), (0xC124, .cSw 1 2 16), (0x6480, .cFlw 0 1 2), (0xE480, .cFsw 0 1 2),
     (0x0001, .cNop 0), (0x12FD, .cAddi 5 63), (0x2801, .cJal 8), (0x5501, .cLi 10 32), (0x7139, .cAddi16sp 60),
     (0x62FD, .cLui 5 31), (0x800D, .cSrli 0 3), (0x84FD, .cSrai 1 31), (0x9961, .cAndi 2 56), (0x8C05, .cSub 0 1),
     (0x8C25, .cXor 0 1), (0x8C45, .cOr 0 1), (0x8C65, .cAnd 0 1), (0xBFFD, .cJ 2047), (0xC401, .cBeqz 0 4),
     (0xF381, .cBnez 7 128), (0x0292, .cSlli 5 4), (0x42B2, .cLwsp 5 3), (0x70FE, .cFlwsp 1 63), (0x8082, .cJr 1)] = true := by decide

theorem test_words_rv32c_2 : reads16
    [(0x829A, .cMv 5 6), (0x9002, .cEbreak), (0x9282, .cJalr 5), (0x929A, .cAdd 5 6), (0xC416, .cSwsp 5 2),
     (0xE116, .cFswsp 5 32)] = true := by decide

/-! Words of spec/44_xcv_mem_elw.md. -/

theorem test_words_xcv_mem : reads32
    [(0x0013028B, .cvLbPostImm 5 6 1), (0x0013428B, .cvLbuPostImm 5 6 1), (0x0023128B, .cvLhPostImm 5 6 2),
     (0x0023528B, .cvLhuPostImm 5 6 2), (0x0043228B, .cvLwPostImm 5 6 4), (0x007332AB, .cvLbPostReg 5 6 7),
     (0x107332AB, .cvLbuPostReg 5 6 7), (0x027332AB, .cvLhPostReg 5 6 7), (0x127332AB, .cvLhuPostReg 5 6 7),
     (0x047332AB, .cvLwPostReg 5 6 7), (0x087332AB, .cvLbIdx 5 6 7), (0x187332AB, .cvLbuIdx 5 6 7),
     (0x0A7332AB, .cvLhIdx 5 6 7), (0x1A7332AB, .cvLhuIdx 5 6 7), (0x0C7332AB, .cvLwIdx 5 6 7),
     (0x005300AB, .cvSbPostImm 5 6 1), (0x0053112B, .cvShPostImm 5 6 2), (0x0053222B, .cvSwPostImm 5 6 4),
     (0x205333AB, .cvSbPostReg 5 6 7), (0x225333AB, .cvShPostReg 5 6 7), (0x245333AB, .cvSwPostReg 5 6 7),
     (0x285333AB, .cvSbIdx 5 6 7), (0x2A5333AB, .cvShIdx 5 6 7), (0x2C5333AB, .cvSwIdx 5 6 7), (0x0083328B, .cvElw 5 6 8)] = true := by decide

/-! Words of spec/45_xcv_hwloop.md. -/

theorem test_words_xcv_hwloop : reads32
    [(0x0030402B, .cvStarti 0 3), (0x0005412B, .cvStart 0 10), (0x0060422B, .cvEndi 0 6), (0x0005C3AB, .cvEnd 1 11),
     (0x0640442B, .cvCounti 0 100), (0x000645AB, .cvCount 1 12), (0x00A2462B, .cvSetupi 0 10 4),
     (0x004647AB, .cvSetup 1 12 4)] = true := by decide

/-! Words of spec/46_xcv_alu.md. -/

theorem test_words_xcv_alu_1 : reads32
    [(0x0E4302DB, .cvExtract 5 6 7 4), (0x4E4302DB, .cvExtractu 5 6 7 4), (0x8E8302DB, .cvInsert 5 6 7 8),
     (0x0E4312DB, .cvBclr 5 6 7 4), (0x4E4312DB, .cvBset 5 6 7 4), (0xC04A195B, .cvBitrev 18 20 0 4),
     (0x307332AB, .cvExtractr 5 6 7), (0x327332AB, .cvExtractur 5 6 7), (0x347332AB, .cvInsertr 5 6 7),
     (0x387332AB, .cvBclrr 5 6 7), (0x3A7332AB, .cvBsetr 5 6 7), (0x407332AB, .cvRor 5 6 7), (0x420332AB, .cvFf1 5 6),
     (0x440332AB, .cvFl1 5 6), (0x460332AB, .cvClb 5 6), (0x480332AB, .cvCnt 5 6), (0x500332AB, .cvAbs 5 6),
     (0x527332AB, .cvSle 5 6 7), (0x547332AB, .cvSleu 5 6 7), (0x567332AB, .cvMin 5 6 7), (0x587332AB, .cvMinu 5 6 7),
     (0x5A7332AB, .cvMax 5 6 7), (0x5C7332AB, .cvMaxu 5 6 7), (0x600332AB, .cvExths 5 6), (0x620332AB, .cvExthz 5 6)] = true := by decide

theorem test_words_xcv_alu_2 : reads32
    [(0x640332AB, .cvExtbs 5 6), (0x660332AB, .cvExtbz 5 6), (0x708332AB, .cvClip 5 6 8), (0x728332AB, .cvClipu 5 6 8),
     (0x747332AB, .cvClipr 5 6 7), (0x767332AB, .cvClipur 5 6 7), (0x027322DB, .cvAddN 5 6 7 1),
     (0x427322DB, .cvAdduN 5 6 7 1), (0x827322DB, .cvAddRN 5 6 7 1), (0xC27322DB, .cvAdduRN 5 6 7 1),
     (0x027332DB, .cvSubN 5 6 7 1), (0x427332DB, .cvSubuN 5 6 7 1), (0x827332DB, .cvSubRN 5 6 7 1),
     (0xC47332DB, .cvSubuRN 5 6 7 2), (0x807332AB, .cvAddNr 5 6 7), (0x827332AB, .cvAdduNr 5 6 7),
     (0x847332AB, .cvAddRNr 5 6 7), (0x867332AB, .cvAdduRNr 5 6 7), (0x887332AB, .cvSubNr 5 6 7),
     (0x8A7332AB, .cvSubuNr 5 6 7), (0x8C7332AB, .cvSubRNr 5 6 7), (0x8E7332AB, .cvSubuRNr 5 6 7),
     (0x01F3680B, .cvBeqimm 6 31 8), (0xFE337C8B, .cvBneimm 6 3 4092)] = true := by decide

/-! Words of spec/47_xcv_mac.md. -/

theorem test_words_xcv_mac : reads32
    [(0x087352DB, .cvMuluN 5 6 7 4), (0x487352DB, .cvMulhhuN 5 6 7 4), (0x027342DB, .cvMulsN 5 6 7 1),
     (0x407342DB, .cvMulhhsN 5 6 7 0), (0x827352DB, .cvMuluRN 5 6 7 1), (0xFE7352DB, .cvMulhhuRN 5 6 7 31),
     (0x827342DB, .cvMulsRN 5 6 7 1), (0xFE7342DB, .cvMulhhsRN 5 6 7 31), (0x007372DB, .cvMacuN 5 6 7 0),
     (0x487372DB, .cvMachhuN 5 6 7 4), (0x047362DB, .cvMacsN 5 6 7 2), (0x427362DB, .cvMachhsN 5 6 7 1),
     (0x847372DB, .cvMacuRN 5 6 7 2), (0xC47372DB, .cvMachhuRN 5 6 7 2), (0x847362DB, .cvMacsRN 5 6 7 2),
     (0xC47362DB, .cvMachhsRN 5 6 7 2), (0x907332AB, .cvMac 5 6 7), (0x927332AB, .cvMsu 5 6 7)] = true := by decide

/-! Words of spec/48_xcv_simd_alu.md. -/

theorem test_words_xcv_simd_alu_1 : reads32
    [(0x007302FB, .cvAddH 5 6 7), (0x007342FB, .cvAddScH 5 6 7), (0x015362FB, .cvAddSciH 5 6 42),
     (0x007312FB, .cvAddB 5 6 7), (0x007352FB, .cvAddScB 5 6 7), (0x015372FB, .cvAddSciB 5 6 42),
     (0x087302FB, .cvSubH 5 6 7), (0x087342FB, .cvSubScH 5 6 7), (0x095362FB, .cvSubSciH 5 6 42),
     (0x087312FB, .cvSubB 5 6 7), (0x087352FB, .cvSubScB 5 6 7), (0x095372FB, .cvSubSciB 5 6 42),
     (0x107302FB, .cvAvgH 5 6 7), (0x107342FB, .cvAvgScH 5 6 7), (0x13E362FB, .cvAvgSciH 5 6 61),
     (0x107312FB, .cvAvgB 5 6 7), (0x107352FB, .cvAvgScB 5 6 7), (0x13E372FB, .cvAvgSciB 5 6 61),
     (0x187302FB, .cvAvguH 5 6 7), (0x187342FB, .cvAvguScH 5 6 7), (0x1BF362FB, .cvAvguSciH 5 6 63),
     (0x187312FB, .cvAvguB 5 6 7), (0x187352FB, .cvAvguScB 5 6 7), (0x1BF372FB, .cvAvguSciB 5 6 63),
     (0x207302FB, .cvMinH 5 6 7)] = true := by decide

theorem test_words_xcv_simd_alu_2 : reads32
    [(0x207342FB, .cvMinScH 5 6 7), (0x23F362FB, .cvMinSciH 5 6 63), (0x207312FB, .cvMinB 5 6 7),
     (0x207352FB, .cvMinScB 5 6 7), (0x23F372FB, .cvMinSciB 5 6 63), (0x287302FB, .cvMinuH 5 6 7),
     (0x287342FB, .cvMinuScH 5 6 7), (0x2BF362FB, .cvMinuSciH 5 6 63), (0x287312FB, .cvMinuB 5 6 7),
     (0x287352FB, .cvMinuScB 5 6 7), (0x2BF372FB, .cvMinuSciB 5 6 63), (0x307302FB, .cvMaxH 5 6 7),
     (0x307342FB, .cvMaxScH 5 6 7), (0x33F362FB, .cvMaxSciH 5 6 63), (0x307312FB, .cvMaxB 5 6 7),
     (0x307352FB, .cvMaxScB 5 6 7), (0x33F372FB, .cvMaxSciB 5 6 63), (0x387302FB, .cvMaxuH 5 6 7),
     (0x387342FB, .cvMaxuScH 5 6 7), (0x3BF362FB, .cvMaxuSciH 5 6 63), (0x387312FB, .cvMaxuB 5 6 7),
     (0x387352FB, .cvMaxuScB 5 6 7), (0x3BF372FB, .cvMaxuSciB 5 6 63), (0x407302FB, .cvSrlH 5 6 7),
     (0x407342FB, .cvSrlScH 5 6 7)] = true := by decide

theorem test_words_xcv_simd_alu_3 : reads32
    [(0x421362FB, .cvSrlSciH 5 6 3), (0x407312FB, .cvSrlB 5 6 7), (0x407352FB, .cvSrlScB 5 6 7),
     (0x421372FB, .cvSrlSciB 5 6 3), (0x487302FB, .cvSraH 5 6 7), (0x487342FB, .cvSraScH 5 6 7),
     (0x4A1362FB, .cvSraSciH 5 6 3), (0x487312FB, .cvSraB 5 6 7), (0x487352FB, .cvSraScB 5 6 7),
     (0x4A1372FB, .cvSraSciB 5 6 3), (0x507302FB, .cvSllH 5 6 7), (0x507342FB, .cvSllScH 5 6 7),
     (0x521362FB, .cvSllSciH 5 6 3), (0x507312FB, .cvSllB 5 6 7), (0x507352FB, .cvSllScB 5 6 7),
     (0x521372FB, .cvSllSciB 5 6 3), (0x587302FB, .cvOrH 5 6 7), (0x587342FB, .cvOrScH 5 6 7),
     (0x598362FB, .cvOrSciH 5 6 48), (0x587312FB, .cvOrB 5 6 7), (0x587352FB, .cvOrScB 5 6 7),
     (0x598372FB, .cvOrSciB 5 6 48), (0x607302FB, .cvXorH 5 6 7), (0x607342FB, .cvXorScH 5 6 7),
     (0x63F362FB, .cvXorSciH 5 6 63)] = true := by decide

theorem test_words_xcv_simd_alu_4 : reads32
    [(0x607312FB, .cvXorB 5 6 7), (0x607352FB, .cvXorScB 5 6 7), (0x63F372FB, .cvXorSciB 5 6 63),
     (0x687302FB, .cvAndH 5 6 7), (0x687342FB, .cvAndScH 5 6 7), (0x6A7362FB, .cvAndSciH 5 6 15),
     (0x687312FB, .cvAndB 5 6 7), (0x687352FB, .cvAndScB 5 6 7), (0x6A7372FB, .cvAndSciB 5 6 15),
     (0x700302FB, .cvAbsH 5 6), (0x700312FB, .cvAbsB 5 6), (0xBA0302FB, .cvExtractH 5 6 1),
     (0xB81312FB, .cvExtractB 5 6 2), (0xB80322FB, .cvExtractuH 5 6 0), (0xBA0332FB, .cvExtractuB 5 6 1),
     (0xBA0342FB, .cvInsertH 5 6 1), (0xB81352FB, .cvInsertB 5 6 2)] = true := by decide

/-! Words of spec/49_xcv_simd_dot_shuffle_cmp_cplx.md. -/

theorem test_words_xcv_simd_dot_1 : reads32
    [(0x807302FB, .cvDotupH 5 6 7), (0x807342FB, .cvDotupScH 5 6 7), (0x83F362FB, .cvDotupSciH 5 6 63),
     (0x807312FB, .cvDotupB 5 6 7), (0x807352FB, .cvDotupScB 5 6 7), (0x83F372FB, .cvDotupSciB 5 6 63),
     (0x887302FB, .cvDotuspH 5 6 7), (0x887342FB, .cvDotuspScH 5 6 7), (0x89F362FB, .cvDotuspSciH 5 6 62),
     (0x887312FB, .cvDotuspB 5 6 7), (0x887352FB, .cvDotuspScB 5 6 7), (0x89F372FB, .cvDotuspSciB 5 6 62),
     (0x907302FB, .cvDotspH 5 6 7), (0x907342FB, .cvDotspScH 5 6 7), (0x91F362FB, .cvDotspSciH 5 6 62),
     (0x907312FB, .cvDotspB 5 6 7), (0x907352FB, .cvDotspScB 5 6 7), (0x91F372FB, .cvDotspSciB 5 6 62),
     (0x987302FB, .cvSdotupH 5 6 7), (0x987342FB, .cvSdotupScH 5 6 7), (0x9BF362FB, .cvSdotupSciH 5 6 63),
     (0x987312FB, .cvSdotupB 5 6 7), (0x987352FB, .cvSdotupScB 5 6 7), (0x9BF372FB, .cvSdotupSciB 5 6 63),
     (0xA07302FB, .cvSdotuspH 5 6 7)] = true := by decide

theorem test_words_xcv_simd_dot_2 : reads32
    [(0xA07342FB, .cvSdotuspScH 5 6 7), (0xA1F362FB, .cvSdotuspSciH 5 6 62), (0xA07312FB, .cvSdotuspB 5 6 7),
     (0xA07352FB, .cvSdotuspScB 5 6 7), (0xA1F372FB, .cvSdotuspSciB 5 6 62), (0xA87302FB, .cvSdotspH 5 6 7),
     (0xA87342FB, .cvSdotspScH 5 6 7), (0xA9F362FB, .cvSdotspSciH 5 6 62), (0xA87312FB, .cvSdotspB 5 6 7),
     (0xA87352FB, .cvSdotspScB 5 6 7), (0xA9F372FB, .cvSdotspSciB 5 6 62), (0xC07302FB, .cvShuffleH 5 6 7),
     (0xC20362FB, .cvShuffleSciH 5 6 1), (0xC07312FB, .cvShuffleB 5 6 7), (0xC2D372FB, .cvShuffleI0SciB 5 6 27),
     (0xCAD372FB, .cvShuffleI1SciB 5 6 27), (0xD2D372FB, .cvShuffleI2SciB 5 6 27), (0xDAD372FB, .cvShuffleI3SciB 5 6 27),
     (0xE07302FB, .cvShuffle2H 5 6 7), (0xE07312FB, .cvShuffle2B 5 6 7), (0xF07302FB, .cvPack 5 6 7),
     (0xF27302FB, .cvPackH 5 6 7), (0xFA7312FB, .cvPackhiB 5 6 7), (0xF87312FB, .cvPackloB 5 6 7),
     (0x047302FB, .cvCmpeqH 5 6 7)] = true := by decide

theorem test_words_xcv_simd_dot_3 : reads32
    [(0x047342FB, .cvCmpeqScH 5 6 7), (0x05F362FB, .cvCmpeqSciH 5 6 62), (0x047312FB, .cvCmpeqB 5 6 7),
     (0x047352FB, .cvCmpeqScB 5 6 7), (0x05F372FB, .cvCmpeqSciB 5 6 62), (0x0C7302FB, .cvCmpneH 5 6 7),
     (0x0C7342FB, .cvCmpneScH 5 6 7), (0x0DF362FB, .cvCmpneSciH 5 6 62), (0x0C7312FB, .cvCmpneB 5 6 7),
     (0x0C7352FB, .cvCmpneScB 5 6 7), (0x0DF372FB, .cvCmpneSciB 5 6 62), (0x147302FB, .cvCmpgtH 5 6 7),
     (0x147342FB, .cvCmpgtScH 5 6 7), (0x15F362FB, .cvCmpgtSciH 5 6 62), (0x147312FB, .cvCmpgtB 5 6 7),
     (0x147352FB, .cvCmpgtScB 5 6 7), (0x15F372FB, .cvCmpgtSciB 5 6 62), (0x1C7302FB, .cvCmpgeH 5 6 7),
     (0x1C7342FB, .cvCmpgeScH 5 6 7), (0x1DF362FB, .cvCmpgeSciH 5 6 62), (0x1C7312FB, .cvCmpgeB 5 6 7),
     (0x1C7352FB, .cvCmpgeScB 5 6 7), (0x1DF372FB, .cvCmpgeSciB 5 6 62), (0x247302FB, .cvCmpltH 5 6 7),
     (0x247342FB, .cvCmpltScH 5 6 7)] = true := by decide

theorem test_words_xcv_simd_dot_4 : reads32
    [(0x25F362FB, .cvCmpltSciH 5 6 62), (0x247312FB, .cvCmpltB 5 6 7), (0x247352FB, .cvCmpltScB 5 6 7),
     (0x25F372FB, .cvCmpltSciB 5 6 62), (0x2C7302FB, .cvCmpleH 5 6 7), (0x2C7342FB, .cvCmpleScH 5 6 7),
     (0x2DF362FB, .cvCmpleSciH 5 6 62), (0x2C7312FB, .cvCmpleB 5 6 7), (0x2C7352FB, .cvCmpleScB 5 6 7),
     (0x2DF372FB, .cvCmpleSciB 5 6 62), (0x347302FB, .cvCmpgtuH 5 6 7), (0x347342FB, .cvCmpgtuScH 5 6 7),
     (0x361362FB, .cvCmpgtuSciH 5 6 3), (0x347312FB, .cvCmpgtuB 5 6 7), (0x347352FB, .cvCmpgtuScB 5 6 7),
     (0x361372FB, .cvCmpgtuSciB 5 6 3), (0x3C7302FB, .cvCmpgeuH 5 6 7), (0x3C7342FB, .cvCmpgeuScH 5 6 7),
     (0x3E1362FB, .cvCmpgeuSciH 5 6 3), (0x3C7312FB, .cvCmpgeuB 5 6 7), (0x3C7352FB, .cvCmpgeuScB 5 6 7),
     (0x3E1372FB, .cvCmpgeuSciB 5 6 3), (0x447302FB, .cvCmpltuH 5 6 7), (0x447342FB, .cvCmpltuScH 5 6 7),
     (0x461362FB, .cvCmpltuSciH 5 6 3)] = true := by decide

theorem test_words_xcv_simd_dot_5 : reads32
    [(0x447312FB, .cvCmpltuB 5 6 7), (0x447352FB, .cvCmpltuScB 5 6 7), (0x461372FB, .cvCmpltuSciB 5 6 3),
     (0x4C7302FB, .cvCmpleuH 5 6 7), (0x4C7342FB, .cvCmpleuScH 5 6 7), (0x4E1362FB, .cvCmpleuSciH 5 6 3),
     (0x4C7312FB, .cvCmpleuB 5 6 7), (0x4C7352FB, .cvCmpleuScB 5 6 7), (0x4E1372FB, .cvCmpleuSciB 5 6 3),
     (0x547302FB, .cvCplxmulR 5 6 7), (0x547322FB, .cvCplxmulRDiv2 5 6 7), (0x547342FB, .cvCplxmulRDiv4 5 6 7),
     (0x547362FB, .cvCplxmulRDiv8 5 6 7), (0x567302FB, .cvCplxmulI 5 6 7), (0x567322FB, .cvCplxmulIDiv2 5 6 7),
     (0x567342FB, .cvCplxmulIDiv4 5 6 7), (0x567362FB, .cvCplxmulIDiv8 5 6 7), (0x5C0302FB, .cvCplxconj 5 6),
     (0x647302FB, .cvSubrotmj 5 6 7), (0x647322FB, .cvSubrotmjDiv2 5 6 7), (0x647342FB, .cvSubrotmjDiv4 5 6 7),
     (0x647362FB, .cvSubrotmjDiv8 5 6 7), (0x6C7322FB, .cvAddDiv2 5 6 7), (0x6C7342FB, .cvAddDiv4 5 6 7),
     (0x6C7362FB, .cvAddDiv8 5 6 7)] = true := by decide

theorem test_words_xcv_simd_dot_6 : reads32
    [(0x747322FB, .cvSubDiv2 5 6 7), (0x747342FB, .cvSubDiv4 5 6 7), (0x747362FB, .cvSubDiv8 5 6 7)] = true := by decide

/-! Words that spec/95_test_vectors.md lists as illegal for every parameter choice, and reserved compressed parcels. -/

theorem test_words_rejected : rejects
    [0x00003023, 0x00A24E2B, 0x00000000, 0x4002, 0xFFFFFFFF, 0x8002, 0x6101, 0x6081, 0x2000, 0xA002] = true := by decide

/-! ### One step on a small state -/

/-- The state right after reset about to run `w`, with x5, x6, x7 holding `d`, `a`, `b`. -/
def placed (w : Nat) (d a b : Word) : State :=
  { State.reset.withFetchWord 32 w with x := (((Vector.replicate 32 0).set 5 d).set 6 a).set 7 b }

/-- One step from `s` gives a state with the property `p`. -/
def after (s : State) (p : State → Bool) : Bool :=
  match step s with
  | .next t => p t
  | _ => false

/-- Each row: a word, x5, x6 and x7 before, and x5 after. -/
def gives5 (l : List (Nat × Word × Word × Word × Word)) : Bool :=
  l.all fun (w, d, a, b, r) => after (placed w d a b) (fun t => t.reg 5 == r)

/-! Vectors A of spec/95_test_vectors.md: the Xcv ALU. -/

theorem test_xcv_alu : gives5
    [(0x0E4302DB, 0x0, 0xF80, 0x0, 0xFFFFFFF8), (0x1F8302DB, 0x0, 0x80000000, 0x0, 0xFFFFFF80),
     (0x064312DB, 0x0, 0xFFFFFFFF, 0x0, 0xFFFFFF0F), (0x420332AB, 0x0, 0x0, 0x0, 0x20),
     (0x460332AB, 0x0, 0xFFFFFFFF, 0x0, 0x1F), (0x480332AB, 0x0, 0xF0F0F0F1, 0x0, 0x11),
     (0x500332AB, 0x0, 0x80000000, 0x0, 0x80000000), (0x708332AB, 0x0, 0xFFFFFF00, 0x0, 0xFFFFFF80),
     (0x728332AB, 0x0, 0xC8, 0x0, 0x7F), (0x587332AB, 0x0, 0x80000000, 0x1, 0x1),
     (0x660332AB, 0x0, 0x123480FF, 0x0, 0xFF), (0x847322DB, 0x0, 0x5, 0x1, 0x2)] = true := by decide

/-! Vectors R511 and on: multiply-accumulate and SIMD. -/

theorem test_xcv_vectors_1 : gives5
    [(0x087352DB, 0x0, 0x1234FFFF, 0x5678FFFF, 0xFFFE000), (0x827352DB, 0x0, 0x3, 0x5, 0x8),
     (0x007372DB, 0x20000, 0xFFFF, 0xFFFF, 0x1), (0x847372DB, 0x3, 0x3, 0x5, 0x5),
     (0x907332AB, 0xA, 0xFFFFFFFD, 0x4, 0xFFFFFFFE), (0x007302FB, 0x0, 0x7FFF8001, 0x20003, 0x80018004),
     (0x087342FB, 0x0, 0x7FFF8001, 0x20003, 0x7FFC7FFE), (0x13E362FB, 0x0, 0x7FFF8001, 0x0, 0x3FFE3FFF),
     (0x187312FB, 0x0, 0x7F80FF01, 0x1020304, 0x40410102), (0x207352FB, 0x0, 0x7F80FF01, 0x1020304, 0x480FF01),
     (0x2BF372FB, 0x0, 0x7F80FF01, 0x0, 0x3F3F3F01), (0x387302FB, 0x0, 0x7FFF8001, 0x20003, 0x7FFF8001),
     (0x407342FB, 0x0, 0x7FFF8001, 0x20003, 0xFFF1000), (0x4A1362FB, 0x0, 0x7FFF8001, 0x0, 0xFFFF000),
     (0x507312FB, 0x0, 0x7F80FF01, 0x1020304, 0xFE00F810), (0x587352FB, 0x0, 0x7F80FF01, 0x1020304, 0x7F84FF05),
     (0x63F372FB, 0x0, 0x7F80FF01, 0x0, 0x807F00FE), (0x700302FB, 0x0, 0x8000FFFE, 0x0, 0x80000002)] = true := by decide

/-! Vectors R6xx and on: dot products, shuffles, comparisons, complex. -/

theorem test_xcv_vectors_2 : gives5
    [(0xB81352FB, 0xAAAAAAAA, 0x12F48765, 0x0, 0xAA65AAAA), (0x887302FB, 0x0, 0x8001FFFF, 0xFFFE0003, 0x1FFFB),
     (0x907342FB, 0x0, 0x8001FFFF, 0xFFFE0003, 0xFFFE8000), (0x9BF362FB, 0x10, 0x8001FFFF, 0x0, 0x5E8010),
     (0xA07312FB, 0x10, 0x80FF7F02, 0xFF02FE03, 0x96), (0xA87352FB, 0x10, 0x80FF7F02, 0xFF02FE03, 0x10),
     (0xD2D372FB, 0x0, 0x44332211, 0x0, 0x33223344), (0xF87312FB, 0xDDCCBBAA, 0x44332211, 0x88776655, 0xDDCC1155),
     (0x0C7302FB, 0x0, 0xFFFE0003, 0x3FFFE, 0xFFFFFFFF), (0x147342FB, 0x0, 0xFFFE0003, 0x3FFFE, 0xFFFF),
     (0x1DF362FB, 0x0, 0xFFFE0003, 0x0, 0xFFFFFFFF), (0x247312FB, 0x0, 0xFE0380FD, 0x203FFFD, 0xFF00FF00),
     (0x2C7352FB, 0x0, 0xFE0380FD, 0x203FFFD, 0xFFFF), (0x361372FB, 0x0, 0xFE0380FD, 0x0, 0xFF00FFFF),
     (0x447302FB, 0x0, 0xFFFE0003, 0x3FFFE, 0xFFFF), (0x4C7342FB, 0x0, 0xFFFE0003, 0x3FFFE, 0xFFFFFFFF),
     (0x547342FB, 0xAAAA5555, 0x40002000, 0xC0006000, 0xAAAA0E00),
     (0x647302FB, 0x0, 0x60002001, 0x3000F004, 0xD0033000), (0x747322FB, 0x0, 0x60002001, 0x3000F004, 0x180017FE)] = true := by decide

/-! Vectors I, M, C, Z, F, L, H and X of spec/95_test_vectors.md. -/

theorem test_rv32_vectors : gives5
    [(0x007302B3, 0, 0x7FFFFFFF, 1, 0x80000000), (0xFFFFF2B7, 0, 0, 0, 0xFFFFF000), (0x027312B3, 0, 0xFFFFFFFF, 0xFFFFFFFF, 0),
     (0x027342B3, 0, 0x12345678, 0, 0xFFFFFFFF), (0x027342B3, 0, 0x80000000, 0xFFFFFFFF, 0x80000000),
     (0x027362B3, 0, 0x80000000, 0xFFFFFFFF, 0), (0x0000528D, 1, 0, 0, 0xFFFFFFE3), (0x407352B3, 0, 0x80000000, 0x21, 0xC0000000),
     (0x007332B3, 0, 1, 0xFFFFFFFF, 1)] = true := by decide

/-- x0 stays zero, and the pc moves by the instruction's length. -/
theorem test_x0_and_pc :
    after (placed 0x00700033 0 0 5) (fun t => t.reg 0 == 0 && t.pc == 0x84) = true ∧
    after (placed 0x00000001 0 0 0) (fun t => t.pc == 0x82) = true := by decide

/-- A misaligned word store, then its bytes: little-endian, the word's neighbours untouched. -/
theorem test_store_misaligned : after (placed 0x005321A3 0x44332211 0x2000 0)
    (fun t => t.mem.byte 0x2003 == 0x11 && t.mem.byte 0x2006 == 0x44 && t.mem.byte 0x2007 == 0 && t.mem.byte 0x2002 == 0
      && t.mem.wf) = true := by decide

/-- A load across the top of the address space wraps (20_memory R138). -/
theorem test_load_wraps :
    after { placed 0x00032283 0 0xFFFFFFFE 0 with mem := [(0, 3), (1, 4), (0x80, 0x83), (0x81, 0x22), (0x82, 3), (0xFFFFFFFE, 1),
      (0xFFFFFFFF, 2)] } (fun t => t.reg 5 == 0x04030201) = true := by decide

/-- Z3, Z7 and L-vectors: writable bits of mstatus; a post-incremented load whose destination is its base. -/
theorem test_csr_vectors :
    after (placed 0x30031073 0 0xFFFFFFFF 0) (fun t => t.csrRead 0x300 == some 0x80007888) = true ∧
    after (placed 0x34231073 0 0x8000000B 0) (fun t => t.mcause == 0x8000000B) = true ∧
    after (placed 0x0043230B 0 0x80 0) (fun t => t.reg 6 == 0x0043230B) = true := by decide

/-- F7, F16, F25 with the flags. -/
theorem test_fp_vectors :
    fAdd .rne 0x3F800000 0xBF800000 = (0, 0) ∧ fMul .rne 0x00800000 0x3F000000 = (0x00400000, 0) ∧
    fToSigned .rtz 0x7FC00000 = (0x7FFFFFFF, 0x10) ∧ fOfInt .rne (-2147483648) = (0xCF000000, 0) ∧
    fClass 0x007FFFFF = 0x20 ∧ fLe 0x80000000 0 = (1, 0) ∧ fDiv .rne 0x3F800000 0 = (0x7F800000, 8) := by decide

/-- H9: the last instruction of loop 1's body goes back to its start. -/
theorem test_loop_back : after { placed 0x00128293 0 0 0 with loop1 := { start := 0x70, stop := 0x84, count := 3 } }
    (fun t => t.pc == 0x70 && t.loop1.count == 2 && t.reg 5 == 1) = true := by decide

/-- X1, Z13, X15: an undecodable word, `ecall`, `ebreak` with ebreakm. -/
theorem test_traps :
    after { placed 0xFFFFFFFF 0 0 0 with mstatus := 0x1808, mtvec := 0x401, minstret := 7 }
      (fun t => t.mepc == 0x80 && t.mcause == 2 && t.mstatus == 0x1880 && t.pc == 0x400 && t.minstret == 7) = true ∧
    after { placed 0x00000073 0 0 0 with mstatus := 0x1808, mtvec := 0x401 }
      (fun t => t.mcause == 11 && t.mstatus == 0x1880 && t.pc == 0x400) = true ∧
    after { placed 0x00100073 0 0 0 with dcsr := 0x40008003 }
      (fun t => t.debugMode && t.dpc == 0x80 && t.dcsr == 0x40008043 && t.pc == 0x1A110800) = true := by decide

/-! ### Witnesses of the hypotheses of the statements -/

/-- Fetch enabled after reset: the instruction at the boot address is next. -/
def ready : State := { State.reset with fetchEnabled := true }

theorem test_witness_DecodeInvertsEncode :
    (Instr.cLui 1 32).wellFormed = true ∧ encode (.cLui 1 32) = .half 0x7081 ∧ encode (.addi 5 5 1) = .full 0x00128293 := by
  decide

theorem test_witness_EncodeInvertsDecode :
    decodeCode (.half 0x4481) = .ok (.cLi 9 0) ∧ decodeCode (.full 0x7FFFFFFF) ≠ .ok (.cLi 9 0) := by decide

theorem test_witness_StepKeepsInvariant : State.reset.Inv ∧ ∃ t, step State.reset = .next t :=
  ⟨⟨rfl, rfl, rfl, rfl,
    ⟨by unfold bitsAre; decide, by unfold bitsAre; decide, by unfold bitsAre; decide, by unfold bitsAre; decide,
      by unfold bitsAre; decide, by unfold bitsAre; decide, by unfold bitsAre; decide, by unfold bitsAre; decide,
      by unfold bitsAre; decide, by decide⟩,
    ⟨rfl, rfl⟩, ⟨rfl, rfl⟩, fun _ => ⟨rfl, rfl⟩, fun _ => rfl, fun _ => rfl, fun h => Bool.noConfusion h⟩, _, rfl⟩

theorem test_witness_ResetHasInvariant :
    Config.atReset.legal = true ∧ { Config.atReset with numMhpmcounters := 29, zfinx := true }.legal = true ∧
    Config.defaults.legal = true := by decide

/-- The defaults of R12. -/
theorem test_defaults : Config.defaults.fpu = false ∧ Config.defaults.zfinx = false ∧ Config.defaults.corevPulp = false ∧
    Config.defaults.corevCluster = false ∧ Config.defaults.numMhpmcounters = 1 ∧ Config.defaults.fpuAddmulLat = 0 ∧
    Config.defaults.fpuOthersLat = 0 := by decide

theorem test_witness_ResetRegisterValues :
    Config.atReset.corevPulp = true ∧ Config.atReset.fpu = true ∧ { Config.atReset with fpu := false }.fpu = false ∧
    FpOn (State.resetWith { Config.atReset with zfinx := true }) := by
  unfold FpOn; decide

/-- The hart runs, and nothing waits, in `ready` and in every state that differs from it in other fields. -/
theorem test_ready_runs : Runs ready ∧ Attends ready :=
  ⟨⟨by decide, rfl, fun _ => rfl, fun h => Bool.noConfusion h⟩, fun h => absurd rfl h⟩

/-- `addi` completes, a compressed instruction in a loop body is a violation, and an undefined write to mcause is refused. -/
theorem test_witness_StepRunsDecodedInstruction :
    (let s := placed 0x00128293 0 0 0
     let b := s.beginStep
     s.elwWaiting = none ∧ s.cfg.hasCode s.pc = true ∧ b.boundary = none ∧ s.stale = [] ∧ s.pc.getLsbD 0 = false ∧
      decodeBytes [b.codeByte s.pc, b.codeByte (s.pc + 1), b.codeByte (s.pc + 2), b.codeByte (s.pc + 3)]
        = .ok (.addi 5 5 1, []) ∧
      (match exec (.addi 5 5 1) s.beginStep with
        | .next t => !loopViolation (.addi 5 5 1) s.beginStep t
        | _ => false) = true) ∧
    (let s := { placed 0x00000001 0 0 0 with loop0 := { start := 0x74, stop := 0x84, count := 1 } }
     let b := s.beginStep
     decodeBytes [b.codeByte s.pc, b.codeByte (s.pc + 1), b.codeByte (s.pc + 2), b.codeByte (s.pc + 3)]
        = .ok (.cNop 0, [0, 0]) ∧
      (match exec (.cNop 0) s.beginStep with
        | .next t => loopViolation (.cNop 0) s.beginStep t
        | _ => false) = true) ∧
    (match exec (.csrrw 0 0x342 6) (placed 0x34231073 0 1 0).beginStep with
      | .refused .mcauseUndefined => true
      | _ => false) = true := by decide

theorem test_witness_SingleStepBecomesDue :
    (let s := { ready with stepPhase := .armed }
     s.stepPhase = .armed ∧ s.debugMode = false ∧ s.elwWaiting = none) ∧ ready.stepPhase ≠ .armed ∧
    { ready with debugMode := true }.debugMode = true ∧ { ready with elwWaiting := some ⟨5, 6, 0⟩ }.elwWaiting ≠ none := by decide

/-- Outside Debug Mode, with a single step in progress, in Debug Mode, and in a loop body; with a vector inside an active body, and a
reserved 16-bit parcel in a body. -/
theorem test_witness_UndecodableWordTraps :
    let s := placed 0xFFFFFFFF 0 0 0
    let body : HwLoop := { start := 0x74, stop := 0x84, count := 2 }
    [(s, false), ({ s with stepPhase := .armed }, false), ({ s with debugMode := true }, false), ({ s with loop0 := body }, false),
      ({ s with mtvec := 0x401, loop0 := { start := 0x3F4, stop := 0x410, count := 2 } }, true),
      ({ placed 0 0 0 0 with loop1 := body }, true)].all (fun p =>
        let s := p.1
        let b := s.beginStep
        let byte := fun k : Word => b.codeByte (s.pc + k)
        s.elwWaiting.isNone && b.boundary.isNone && s.stale == [] && !s.pc.getLsbD 0 &&
          undecodableViolation (byte 3 ++ byte 2 ++ byte 1 ++ byte 0) b (b.raise 2) == p.2 &&
          match decodeBytes [byte 0, byte 1, byte 2, byte 3] with
          | .error _ => true
          | .ok _ => false) = true := by decide

theorem test_placed_runs (w : Nat) (d a b : Word) : Runs (placed w d a b) ∧ Attends (placed w d a b) := by
  have hl : (placed w d a b).cfg.legal = true := by rw [show (placed w d a b).cfg = Config.atReset from rfl]; decide
  exact ⟨⟨hl, rfl, fun _ => rfl, fun h => Bool.noConfusion h⟩, fun h => absurd rfl h⟩

/-- X5 to X8: the order of the interrupts, at the ends of each range. -/
theorem test_interrupt_order :
    selectInterrupt 0x80010888 = some 31 ∧ selectInterrupt 0x00010888 = some 16 ∧ selectInterrupt 0x0000F888 = some 11 ∧
    selectInterrupt 0x88 = some 3 ∧ selectInterrupt 0x80 = some 7 ∧ selectInterrupt 0x0000F777 = none := by decide

/-- Interrupts 31 and 7, vectored and direct, and in a single step with stepie. -/
theorem test_witness_InterruptIsTaken : [((0x80000000 : Word), (31 : BitVec 5), (0x401 : Word)), (0x80, 7, 0x400)].all
    (fun p =>
      let s := { ready with mstatus := 0x1808, mie := p.1, irq := p.1, mtvec := p.2.2 }
      [s, { s with stepPhase := .armed, dcsr := 0x40000807 }].all (fun s =>
        !s.debugMode && !s.debugReq && !s.debugPending &&
          (s.stepPhase == .idle || (s.stepPhase == .armed && s.dcsr.getLsbD 11)) && s.mstatus.getLsbD 3 &&
          selectInterrupt (s.irq &&& 0xFFFF0888 &&& s.mie) == some p.2.1)) = true := by decide

theorem test_witness_InterruptIsMasked :
    { ready with debugMode := true }.debugMode = true ∧ ready.mstatus.getLsbD 3 = false ∧
    (let s := { ready with irq := 0xF777, mie := 0xFFFF0888 }; s.irq &&& 0xFFFF0888 &&& s.mie = 0) ∧
    (let s := { ready with stepPhase := .armed }; s.stepPhase = .armed ∧ s.dcsr.getLsbD 11 = false) := by decide

theorem test_witness_DebugRequestIsServed :
    ready.debugMode = false ∧ { ready with debugReq := true }.debugReq = true ∧
    { ready with debugPending := true }.debugPending = true := by decide

theorem test_witness_SingleStepEntersDebug :
    let s := { ready with stepPhase := .due }
    s.debugMode = false ∧ s.debugReq = false ∧ s.debugPending = false ∧ s.stepPhase = .due := by decide

/-- With MIE = 0; with MIE = 1 and nothing pending and enabled; in a single step without stepie and with an interrupt pending. -/
theorem test_witness_TriggerEntersDebug :
    let s := { ready with tdata1 := 0x28001044, tdata2 := 0x80 }
    [s, { s with mstatus := 0x1808, mie := 0x80, irq := 0x800 },
      { s with mstatus := 0x1808, mie := 0x80, irq := 0x80, stepPhase := .armed }].all (fun s =>
        !s.debugMode && !s.debugReq && !s.debugPending && s.stepPhase != .due && s.interruptToTake.isNone &&
          s.tdata1.getLsbD 2 && s.pc == s.tdata2) = true := by decide

theorem test_witness_SleepUntilWoken :
    (let s := { ready with sleeping := true }
     s.cfg.legal = true ∧ s.fetchEnabled = true ∧ s.sleeping = true ∧ s.elwWaiting = none ∧
       s.irq &&& 0xFFFF0888 &&& s.mie = 0 ∧ s.debugReq = false ∧ s.debugPending = false ∧ s.debugMode = false) ∧
    (let s := { ready with sleeping := true, irq := 0x80, mie := 0x80 }
     s.irq &&& 0xFFFF0888 &&& s.mie ≠ 0 ∧ s.mstatus.getLsbD 3 = false) := by decide

/-- The line low and high; a debug request that is pending when it is sampled, its line fallen again. -/
theorem test_witness_WaitsForFetchEnable :
    State.reset.cfg.legal = true ∧ State.reset.fetchEnabled = false ∧ State.reset.fetchEnablePin = true ∧
    State.reset.debugReq = false ∧ State.reset.debugPending = false ∧ State.reset.debugMode = false ∧
    { State.reset with fetchEnablePin := false }.fetchEnablePin = false ∧ ready.fetchEnabled = true ∧
    after (placed 0x00128293 0 0 0) (fun t => t.fetchEnabled) = true ∧
    after ((State.reset.driveDebugReq true).driveDebugReq false) (fun t =>
      t.debugMode && t.dpc == 0x80 && t.pc == 0x1A110800 && t.debugStatus == (false, false, true)) = true := by decide

theorem test_witness_BrokenIntegrationIsRefused :
    { Config.atReset with numMhpmcounters := 30 }.legal = false ∧ { Config.atReset with fpu := false, zfinx := true }.legal = false ∧
    (let s := { ready with pulpClockEn := false }
     s.cfg.legal = true ∧ s.fetchEnabled = true ∧ s.cfg.corevCluster = true ∧ s.pulpClockEn = false ∧ s.sleeping = false) ∧
    { ready with pulpClockEn := false, sleeping := true }.sleeping = true := by decide

theorem test_witness_FetchGivesOldOrNewWord :
    (∀ k < 4, ready.cfg.hasCode (0xFFFFFFFC + BitVec.ofNat 32 k) = true) ∧
    { ready with stale := [(0x80, 5)] }.oldWords 0x80 = [5] ∧ ∀ w, ((0x84 : Word), w) ∉ { ready with stale := [(0x80, 5)] }.stale :=
  ⟨by decide, by decide, fun w h => by cases List.mem_singleton.1 h⟩

theorem test_witness_CallsAndBreakpoints :
    ready.debugMode = false ∧ ready.dcsr.getLsbD 15 = false ∧ { ready with dcsr := 0x40008003 }.dcsr.getLsbD 15 = true ∧
    { ready with debugMode := true }.debugMode = true := by decide

theorem test_witness_MretReturns : ready.debugMode = false ∧ { ready with debugMode := true }.debugMode = true := by decide

theorem test_witness_DretResumes : { ready with debugMode := true }.debugMode = true ∧ ready.debugMode = false := by decide

theorem test_witness_XcvIllegalWhenAbsent :
    { Config.atReset with corevPulp := false, corevCluster := false }.corevPulp = false ∧
    encode (.cvAbs 5 6) = .full 0x500332AB ∧ (0x500332AB : Word).extractLsb' 0 7 ∈ [0x0B#7, 0x2B#7, 0x5B#7, 0x7B#7] := by decide

/-- Without FPU, with FS Off, with ZFINX, and the three reserved modes, dynamic and static. -/
theorem test_witness_FloatIllegalWhenOff :
    ¬ FpOn ready ∧ ¬ FpOn (State.resetWith { Config.atReset with fpu := false }) ∧
    encode (.faddS 3 1 2 7) = .full 0x0020F1D3 ∧
    (0x0020F1D3 : Word).extractLsb' 0 7 ∈ [0x07#7, 0x27#7, 0x43#7, 0x47#7, 0x4B#7, 0x4F#7, 0x53#7] ∧
    { Config.atReset with zfinx := true }.zfinx = true ∧
    (∀ rm ∈ [5#3, 6#3], (if rm = 7 then ready.frm else rm) ∈ [5#3, 6#3, 7#3]) ∧
    (let s := { ready with frm := 7 }; (if (7#3 : BitVec 3) = 7 then s.frm else 7) ∈ [5#3, 6#3, 7#3]) := by
  unfold FpOn; decide

/-- A plain CSR, a selector, a counter, mcause with a legal and an undefined value, and CSRs that are read-only. -/
theorem test_witness_CsrInstructionsReadAndWrite :
    ([0x340, 0x33F, 0xB00, 0xB9F, 0x342] : List (BitVec 12)).all (fun a =>
      (ready.csrRead a).isSome && a.extractLsb' 10 2 != 3 && a != 0x7A4) = true ∧
    ([0xC00, 0xF14, 0x7A4] : List (BitVec 12)).all (fun a => (ready.csrRead a).isSome && csrReadOnly a) = true ∧
    (match ready.csrWrite 0x342 3 with
      | .next e => e.mcause == 3
      | _ => false) = true ∧
    (match ready.csrWrite 0x342 1 with
      | .refused .mcauseUndefined => true
      | _ => false) = true := by decide

theorem test_witness_CsrWritesStoreWritableBits : State.reset.CsrInv := test_witness_StepKeepsInvariant.1.csr

/-- F on; F off; in Debug Mode; with and without COREV_PULP. -/
theorem test_witness_CsrReadsGiveSpecValues :
    FpOn { ready with mstatus := 0x3800 } ∧ ¬ FpOn ready ∧ ready.debugMode = false ∧ { ready with debugMode := true }.debugMode = true ∧
    ready.cfg.corevPulp = true ∧ { Config.atReset with corevPulp := false }.corevPulp = false ∧ ready.cfg.fpu = true ∧
    Config.defaults.fpu = false := by
  unfold FpOn; decide

/-- The addresses at the edges of the CSR map, outside it. -/
theorem test_csr_outside_map :
    ([0x000, 0x004, 0x302, 0x303, 0x306, 0x31F, 0x321, 0x322, 0x345, 0x79F, 0x7A5, 0x7A9, 0x7AB, 0x7AF, 0x7B4, 0xB01, 0xB20,
      0xB7F, 0xB81, 0xBA0, 0xC01, 0xC20, 0xC81, 0xCA0, 0xCBF, 0xCC3, 0xCC7, 0xCD3, 0xF10, 0xF15, 0xFFF] : List (BitVec 12)).all
      (fun a => ({ ready with mstatus := 0x3800, debugMode := true }.csrRead a).isNone) = true := by decide

theorem test_witness_CsrAccessChecked :
    ready.csrRead 0x7B0 = none ∧ ready.csrRead 0xFFF = none ∧ (0xF14 : BitVec 12).extractLsb' 10 2 = 3 ∧
    (0xC00 : BitVec 12).extractLsb' 10 2 = 3 := by decide

theorem test_witness_FloatCsrWrites :
    FpOn { ready with mstatus := 0x3800 } ∧ FpOn (State.resetWith { Config.atReset with zfinx := true }) := by
  unfold FpOn; decide

theorem test_witness_CounterWrites :
    (0 : Fin 29).val < ready.cfg.numMhpmcounters ∧ ready.cfg.numMhpmcounters ≤ (1 : Fin 29).val := by decide

/-- The ends of the legal causes, and the codes beside them. -/
theorem test_witness_McauseWrites :
    ([0x80000003, 0x80000007, 0x8000000B, 0x80000010, 0x8000001F, 0, 2, 3, 11] : List Word).all mcauseLegal = true ∧
    ([0x80000000, 0x8000000C, 0x8000000F, 1, 4, 16, 31] : List Word).all (fun v => !mcauseLegal v) = true := by decide

theorem test_witness_TriggerRegistersAreDebugOnly :
    ready.debugMode = false ∧ { ready with debugMode := true }.debugMode = true := by decide

theorem test_witness_WfiSleepsOrIsNop :
    ready.cfg.corevCluster = true ∧
    (let s := State.resetWith { Config.atReset with corevCluster := false }
     s.debugReq = false ∧ s.debugPending = false ∧ s.debugMode = false ∧ s.stepPhase ≠ .armed ∧ s.cfg.corevCluster = false ∧
       s.irq &&& 0xFFFF0888 &&& s.mie = 0 ∧ s.tdata1.getLsbD 2 = false) ∧
    (let s := { ready with tdata1 := 0x28001044, tdata2 := 0x84 }
     s.tdata1.getLsbD 2 = true ∧ s.tdata2 = s.pc + 4) ∧
    (let s := { ready with tdata1 := 0x28001044, tdata2 := 0x88 }
     s.tdata1.getLsbD 2 = true ∧ s.tdata2 ≠ s.pc ∧ s.tdata2 ≠ s.pc + 4) := by decide

theorem test_witness_StoreInstructions : ready.mem.wf = true ∧ { ready with mem := [(0, 1), (0xFFFFFFFF, 2)] }.mem.wf = true := by
  decide

theorem test_witness_FloatLoadsAndStores :
    FpOn { ready with mstatus := 0x3800 } ∧ ready.cfg.zfinx = false ∧ ready.mem.wf = true := by
  unfold FpOn; decide

/-- Each static mode, and each dynamic one. -/
theorem test_witness_FloatRoundingInstructions : ∀ p ∈ [(Rounding.rne, 0#3), (.rtz, 1#3), (.rdn, 2#3), (.rup, 3#3), (.rmm, 4#3)],
    (p.1, if p.2 = 7 then ready.frm else p.2) ∈ [(Rounding.rne, 0#3), (.rtz, 1#3), (.rdn, 2#3), (.rup, 3#3), (.rmm, 4#3)] ∧
    (p.1, if (7#3 : BitVec 3) = 7 then { ready with frm := p.2 }.frm else 7) ∈
      [(Rounding.rne, 0#3), (.rtz, 1#3), (.rdn, 2#3), (.rup, 3#3), (.rmm, 4#3)] := by decide

/-- Numbers, the three kinds of zero and NaN that the clauses tell apart, with the unit on. -/
theorem test_witness_FloatExactInstructions :
    FpOn { ready with mstatus := 0x3800 } ∧ isNaN 0x7F800000 = false ∧ isNaN 0x7F800001 = true ∧ isSNaN 0x7F800001 = true ∧
    isSNaN 0xFFC00000 = false ∧ isNaN 0xFFC00000 = true ∧ ready.cfg.zfinx = false := by
  unfold FpOn; decide

/-- Finite numbers with a sum, a product and a fused sum that are not zero: 1, the smallest and the largest. -/
theorem test_witness_FloatSumsAndProductsRoundOnce :
    isFinite 1 = true ∧ isFinite 0xFF7FFFFF = true ∧ isFinite 0x3F800000 = true ∧
    fValue 0x3F800000 + fValue 0x3F800000 ≠ 0 ∧ fValue 0x3F800000 * fValue 0x3F800000 ≠ 0 ∧
    fValue 0x3F800000 * fValue 0x3F800000 + fValue 0x3F800000 ≠ 0 := by
  have h : fValue 0x3F800000 = 1 := by
    have h1 : fSign 0x3F800000 = false := by decide
    have h2 : fMant 0x3F800000 = 2 ^ 23 := by decide
    have h3 : fPow 0x3F800000 = -23 := by decide
    rw [fValue, h1, h2, h3]
    norm_num
  rw [h]
  exact ⟨by decide, by decide, by decide, by norm_num, by norm_num, by norm_num⟩

theorem test_witness_FloatQuotientsRootsRoundOnce :
    fValue 0x3F800000 ≠ 0 ∧ 0 < fValue 0x3F800000 ∧ ((-2) ^ 31 : Int) ≠ 0 ∧ |((-2) ^ 31 : Int)| ≤ 2 ^ 32 ∧
    |(2 ^ 32 : Int)| ≤ 2 ^ 32 := by
  have h : fValue 0x3F800000 = 1 := by
    have h1 : fSign 0x3F800000 = false := by decide
    have h2 : fMant 0x3F800000 = 2 ^ 23 := by decide
    have h3 : fPow 0x3F800000 = -23 := by decide
    rw [fValue, h1, h2, h3]
    norm_num
  rw [h]
  norm_num

/-- A pattern for each hypothesis about special operands. -/
theorem test_witness_FloatSpecialOperands :
    isNaN 0x7FC00000 = true ∧ isInf 0x7F800000 = true ∧ isZero 0x80000000 = true ∧ isInf 0xFF800000 = true ∧
    (0xFF800000 : Word).getLsbD 31 ≠ (0x7F800000 : Word).getLsbD 31 ∧ isNaN 0xFF800000 = false ∧ isNaN 0 = false ∧
    isFinite 1 = true ∧ isZero 1 = false ∧ (0x80000001 : Word).getLsbD 31 = true ∧ isZero 0x80000001 = false := by decide

theorem test_witness_xcv : ready.cfg.corevPulp = true ∧ ready.mem.wf = true := by decide

/-- With and without the response; waiting, awake and asleep. -/
theorem test_witness_EventLoad :
    ready.cfg.corevCluster = true ∧ ready.dataStall = false ∧ { ready with dataStall := true }.dataStall = true ∧
    ready.cfg.hasData 0xFFFFFFFF = true ∧
    (let s := { ready with dataStall := true, sleeping := true, elwWaiting := some ⟨5, 6, 0⟩ }
     s.cfg.legal = true ∧ s.wakes = false ∧ s.coreSleep = true ∧ s.debugReq = false ∧ s.debugPending = false ∧
       s.interruptToTake = none ∧ (s.driveDebugReq true).coreSleep = false) := by decide

/-- Both configurations; a 16-bit and a 32-bit word that are no instructions, in a body. -/
theorem test_witness_HardwareLoopSetup :
    ready.cfg.corevPulp = true ∧ { Config.atReset with corevPulp := false }.corevPulp = false ∧
    (let s := { ready with loop0 := { start := 0x74, stop := 0x84, count := 1 } }
     s.loop0.covers s.pc = true ∧ undecodableViolation 0 s (s.raise 2) = true ∧
       undecodableViolation 0xFFFFFFFF s (s.raise 2) = false ∧ undecodableViolation 0 ready (ready.raise 2) = false) := by decide

/-- A `cv.elw` that waits completes as itself with its response, although its address holds another word by then. -/
theorem test_event_load_goes_on :
    after { placed 0x00000013 0 0x2000 0 with mem := [(0x80, 0x13), (0x2001, 7)], elwWaiting := some ⟨5, 6, 0⟩, sleeping := true }
      (fun t => t.reg 5 == 0x700 && t.pc == 0x84 && t.elwWaiting == none) = true := by decide

/-- U7 = false: a debug request wakes the hart that waits, and the `cv.elw` waits on, awake. -/
theorem test_event_load_uninterruptible :
    after { placed 0x00000013 0 0 0 with
        cfg := { Config.atReset with elwInterruptible := false }, dataStall := true, sleeping := true, debugReq := true,
        debugPending := true, elwWaiting := some ⟨5, 6, 0⟩ }
      (fun t => !t.coreSleep && !t.sleeping && t.pc == 0x80 && t.elwWaiting == some ⟨5, 6, 0⟩) = true := by decide

/-- R426's inner loop goes back inside the body of the outer one; the outer loop going back into an active inner body, and an
`ecall` to a vector in a body, are violations. -/
theorem test_loop_arrivals :
    after { placed 0x00128293 0 0 0 with
        loop0 := { start := 0x78, stop := 0x84, count := 2 }, loop1 := { start := 0x70, stop := 0x8C, count := 2 } }
      (fun t => t.pc == 0x78) = true ∧
    (match step { placed 0x00128293 0 0 0 with
        loop0 := { start := 0x6C, stop := 0x78, count := 2 }, loop1 := { start := 0x70, stop := 0x84, count := 2 } } with
      | .refused .hwLoopViolation => true
      | _ => false) = true ∧
    (match step { placed 0x00000073 0 0 0 with
        mtvec := 0x401, loop0 := { start := 0x3F4, stop := 0x410, count := 2 } } with
      | .refused .hwLoopViolation => true
      | _ => false) = true := by decide

/-- A request whose line is high when `dret` executes stays pending when the line falls; one high at the release of reset too. -/
theorem test_request_is_latched :
    after { placed 0x7B200073 0 0 0 with debugMode := true, debugReq := true } (fun t =>
      !t.debugMode && (t.driveDebugReq false).debugPending) = true ∧
    ({ ready with debugReq := true }.assertReset.driveDebugReq false).debugPending = true := by decide

/-- What another master stores before the first fetch is what is fetched; later, the old word may be too, up to 16 bytes ahead. -/
theorem test_prefetch_window :
    (State.reset.busStore 0x80 1).stale = [] ∧ (ready.busStore 0x90 1).stale = [(0x90, 0)] ∧ (ready.busStore 0x94 1).stale = [] := by
  decide

/-- Where the platform has nothing, a load gets the free byte. -/
theorem test_no_memory_is_free :
    let s := { ready with cfg := { Config.atReset with dataMap := [{ base := 0, size := 0x2000 }] }, mem := [(0x1FFF, 5), (0x2000, 6)] }
    s.loadByte 0x1FFF = 5 ∧ s.loadByte 0x2000 = Config.freeLoad 0 0x2000 := ⟨by decide, rfl⟩

end

end Sys2Proof.Tests
end

section
/-! SUPPORT. What an instruction can do, said once: `exec_executes` is the one case split over the instructions, and every fact about
all of them is a case split over `Executes`. -/

namespace Sys2Proof.Machine

/-- `t` is `s` with the effect of an instruction that has not retired yet: what the meanings of Machine/ make of the named
updates. -/
inductive Effect (s : State) : State → Prop
  | none : Effect s s
  | reg {t : State} (r : Reg) (v : Word) : Effect s t → Effect s (t.setReg r v)
  | freg {t : State} (r : Reg) (v : Word) : Effect s t → Effect s (t.setFreg r v)
  | flags {t : State} (fl : BitVec 5) : Effect s t → Effect s (t.accrue fl)
  | dirty {t : State} : Effect s t → Effect s t.markDirty
  | storeByte (a : Word) (v : Byte) : Effect s (s.storeByte a v)
  | storeHalf (a : Word) (v : BitVec 16) : Effect s (s.storeHalf a v)
  | storeWord (a v : Word) : Effect s (s.storeWord a v)
  | loop (l : BitVec 1) (v : HwLoop) : s.cfg.corevPulp = true → (v.start = (s.loop l).start ∨ bitsAre v.start 3 0) →
      (v.stop = (s.loop l).stop ∨ bitsAre v.stop 3 0) → Effect s (s.setLoop l v)
  | csr {t : State} (a : BitVec 12) (v : Word) : s.csrWrite a v = .next t → Effect s t
  | sleep : s.debugMode = false → Effect s { s with sleeping := true }
  | trapReturn : Effect s { s with mstatus := statusOnMret s.mstatus }
  | debugReturn : Effect s { s with
      debugMode := false
      debugPending := s.debugReq
      stepPhase := if s.dcsr.getLsbD 2 then .armed else .idle }

/-- `t` is what an instruction begun in `s` leaves. -/
inductive Executes (s : State) : State → Prop
  /-- It completes. -/
  | retires {t : State} {r : Retired} : (r.len = 2 ∨ r.len = 4) → Effect s t → Executes s (s.retire r t)
  /-- It raises one of the three exceptions. -/
  | traps (code : Word) : code ∈ [(2 : Word), 3, 11] → Executes s (s.raise code)
  /-- In Debug Mode it goes to one of the two debug addresses. -/
  | restarts (p : Word) : (p = s.cfg.dmHaltAddr ∨ p = s.cfg.dmExceptionAddr) → Executes s { s with pc := p, stale := [] }
  /-- It is a breakpoint that enters Debug Mode. -/
  | halts : Executes s (s.enterDebug 1)
  /-- It is a `cv.elw` without its response. -/
  | waits (w : EventRead) : Executes s (s.waitForEvent w)

/-- Where `r` is a next state, `P` holds of it. -/
def NextMeets (P : State → Prop) (r : Result) : Prop := ∀ t, r = .next t → P t

theorem nextMeets_next {P : State → Prop} {t : State} (h : P t) : NextMeets P (.next t) := by
  rintro _ ⟨⟩; exact h

theorem nextMeets_ite {P : State → Prop} {b : Bool} {r r' : Result} (h : b = true → NextMeets P r)
    (h' : b = false → NextMeets P r') : NextMeets P (if b then r else r') := by
  cases b
  · exact h' rfl
  · exact h rfl

section
variable {s : State} {len : Word} {rd : Reg}

/-- An instruction that completes, as a result. -/
theorem executes_retire {t : State} {r : Retired} (hl : r.len = 2 ∨ r.len = 4) (h : Effect s t) :
    NextMeets (Executes s) (.next (s.retire r t)) :=
  nextMeets_next (.retires hl h)

theorem executes_illegal : NextMeets (Executes s) (illegal s) := nextMeets_next (.traps 2 (by decide))

theorem executes_writeBack {v : Word} (hl : len = 2 ∨ len = 4) : NextMeets (Executes s) (writeBack len rd v s) :=
  executes_retire hl (.reg _ _ .none)

theorem executes_jumpLink {p : Word} (hl : len = 2 ∨ len = 4) : NextMeets (Executes s) (jumpLink len rd p s) :=
  executes_retire hl (.reg _ _ .none)

theorem executes_branchIf {b : Bool} {off : Word} (hl : len = 2 ∨ len = 4) :
    NextMeets (Executes s) (branchIf len b off s) :=
  executes_retire hl .none

theorem executes_loadTo {v : Word} (hl : len = 2 ∨ len = 4) : NextMeets (Executes s) (loadTo len rd v s) :=
  executes_retire hl (.reg _ _ .none)

theorem executes_storeDone {t : State} (hl : len = 2 ∨ len = 4) (h : Effect s t) :
    NextMeets (Executes s) (storeDone len t s) :=
  executes_retire hl h

theorem executes_ifPulp {r : Result} (h : s.cfg.corevPulp = true → NextMeets (Executes s) r) :
    NextMeets (Executes s) (ifPulp s r) :=
  nextMeets_ite h fun _ => executes_illegal

theorem executes_ifFRegs {r : Result} (h : NextMeets (Executes s) r) : NextMeets (Executes s) (ifFRegs s r) :=
  nextMeets_ite (fun _ => h) fun _ => executes_illegal

theorem executes_xcv {v : Word} : NextMeets (Executes s) (xcv rd v s) :=
  executes_ifPulp fun _ => executes_writeBack (.inr rfl)

theorem executes_postLoad {rs1 : Reg} {off v : Word} : NextMeets (Executes s) (postLoad rd rs1 off v s) :=
  executes_ifPulp fun _ => executes_retire (.inr rfl) (.reg _ _ (.reg _ _ .none))

theorem executes_postStore {rs1 : Reg} {off : Word} {t : State} (h : Effect s t) :
    NextMeets (Executes s) (postStore rs1 off t s) :=
  executes_ifPulp fun _ => executes_retire (.inr rfl) (.reg _ _ h)

theorem executes_setLoopTo {l : BitVec 1} {v : HwLoop} (hstart : v.start = (s.loop l).start ∨ bitsAre v.start 3 0)
    (hstop : v.stop = (s.loop l).stop ∨ bitsAre v.stop 3 0) : NextMeets (Executes s) (setLoopTo l v s) :=
  executes_ifPulp fun hp => executes_retire (.inr rfl) (.loop l v hp hstart hstop)

theorem executes_fpTo {v : FpResult} : NextMeets (Executes s) (fpTo rd v s) :=
  nextMeets_ite (fun _ => executes_retire (.inr rfl) (.dirty (.flags _ (.freg _ _ .none)))) fun _ => executes_illegal

theorem executes_fpToInt {v : FpResult} : NextMeets (Executes s) (fpToInt rd v s) :=
  nextMeets_ite (fun _ => executes_retire (.inr rfl) (.dirty (.flags _ (.reg _ _ .none)))) fun _ => executes_illegal

theorem executes_fpRounded {rm : BitVec 3} {v : Rounding → FpResult} :
    NextMeets (Executes s) (fpRounded rm rd v s) := by
  unfold fpRounded
  split
  · exact executes_fpTo
  · exact executes_illegal

theorem executes_fpRoundedToInt {rm : BitVec 3} {v : Rounding → FpResult} :
    NextMeets (Executes s) (fpRoundedToInt rm rd v s) := by
  unfold fpRoundedToInt
  split
  · exact executes_fpToInt
  · exact executes_illegal

theorem executes_fpLoad {a : Word} (hl : len = 2 ∨ len = 4) : NextMeets (Executes s) (fpLoad len rd a s) :=
  executes_ifFRegs (nextMeets_ite (fun _ => executes_retire hl (.dirty (.freg _ _ .none))) fun _ => executes_illegal)

theorem executes_fpStore {a : Word} (hl : len = 2 ∨ len = 4) : NextMeets (Executes s) (fpStore len rd a s) :=
  executes_ifFRegs (nextMeets_ite (fun _ => executes_retire hl (.storeWord _ _)) fun _ => executes_illegal)

theorem executes_eventLoad {w : EventRead} : NextMeets (Executes s) (eventLoad w s) :=
  nextMeets_ite (fun _ => executes_illegal) fun _ =>
    nextMeets_ite (fun _ => nextMeets_next (.waits w)) fun _ => executes_loadTo (.inr rfl)

theorem executes_breakpoint : NextMeets (Executes s) (breakpoint s) :=
  nextMeets_ite (fun _ => nextMeets_next (.restarts _ (.inl rfl))) fun _ =>
    nextMeets_ite (fun _ => nextMeets_next .halts) fun _ => nextMeets_next (.traps 3 (by decide))

theorem executes_environmentCall : NextMeets (Executes s) (environmentCall s) := nextMeets_next (.traps 11 (by decide))

theorem executes_machineReturn : NextMeets (Executes s) (machineReturn s) :=
  nextMeets_ite (fun _ => nextMeets_next (.restarts _ (.inr rfl))) fun _ => executes_retire (.inr rfl) .trapReturn

theorem executes_debugReturn : NextMeets (Executes s) (debugReturn s) :=
  nextMeets_ite (fun _ => executes_retire (.inr rfl) .debugReturn) fun _ => executes_illegal

/-- In Debug Mode `wfi` is a nop (42 R311). -/
theorem State.not_debugMode_of_not_wfiIsNop (h : s.wfiIsNop = false) : s.debugMode = false := by
  simp only [State.wfiIsNop, Bool.or_eq_false_iff] at h
  obtain ⟨⟨⟨⟨⟨⟨-, hd⟩, -⟩, -⟩, -⟩, -⟩, -⟩ := h
  exact hd

theorem executes_waitForInterrupt : NextMeets (Executes s) (waitForInterrupt s) := by
  refine executes_retire (.inr rfl) ?_
  cases h : s.wfiIsNop
  · exact .sleep (State.not_debugMode_of_not_wfiIsNop h)
  · exact .none

theorem executes_csrAccess {a : BitVec 12} {w : Bool} {new : Word → Word} :
    NextMeets (Executes s) (csrAccess rd a w new s) := by
  unfold csrAccess
  split
  · exact executes_illegal
  · refine nextMeets_ite (fun _ => nextMeets_ite (fun _ => executes_illegal) fun _ => ?_) fun _ =>
      executes_retire (.inr rfl) (.reg _ _ .none)
    split
    next h => exact executes_retire (.inr rfl) (.reg _ _ (.csr a _ h))
    next => rintro _ ⟨⟩
    next => rintro _ ⟨⟩

end

/-- The address of a word is a multiple of 4. -/
theorem bitsAre_wordAddr (a : Word) : bitsAre (wordAddr a) 3 0 := by
  unfold bitsAre wordAddr
  rw [BitVec.and_assoc]
  exact BitVec.and_zero

/-- What executing any instruction can do. -/
theorem exec_executes (i : Instr) (s : State) : NextMeets (Executes s) (exec i s) := by
  cases i with
  | lui | auipc | addi | slti | sltiu | xori | ori | andi | slli | srli | srai | add | sub | sll | slt | sltu | xor | srl
  | sra | or | and | mul | mulh | mulhsu | mulhu | div | divu | rem | remu =>
    exact executes_writeBack (.inr rfl)
  | cAddi4spn | cAddi | cLi | cAddi16sp | cLui | cSrli | cSrai | cAndi | cSub | cXor | cOr | cAnd | cSlli | cMv | cAdd =>
    exact executes_writeBack (.inl rfl)
  | jal | jalr => exact executes_jumpLink (.inr rfl)
  | cJal | cJ | cJr | cJalr => exact executes_jumpLink (.inl rfl)
  | beq | bne | blt | bge | bltu | bgeu => exact executes_branchIf (.inr rfl)
  | cBeqz | cBnez => exact executes_branchIf (.inl rfl)
  | cvBeqimm | cvBneimm => exact executes_ifPulp fun _ => executes_branchIf (.inr rfl)
  | lb | lh | lw | lbu | lhu => exact executes_loadTo (.inr rfl)
  | cLw | cLwsp => exact executes_loadTo (.inl rfl)
  | cvLbIdx | cvLbuIdx | cvLhIdx | cvLhuIdx | cvLwIdx => exact executes_ifPulp fun _ => executes_loadTo (.inr rfl)
  | cvLbPostImm | cvLbuPostImm | cvLhPostImm | cvLhuPostImm | cvLwPostImm | cvLbPostReg | cvLbuPostReg | cvLhPostReg
  | cvLhuPostReg | cvLwPostReg =>
    exact executes_postLoad
  | sb => exact executes_storeDone (.inr rfl) (.storeByte _ _)
  | sh => exact executes_storeDone (.inr rfl) (.storeHalf _ _)
  | sw => exact executes_storeDone (.inr rfl) (.storeWord _ _)
  | cSw | cSwsp => exact executes_storeDone (.inl rfl) (.storeWord _ _)
  | cvSbPostImm | cvSbPostReg => exact executes_postStore (.storeByte _ _)
  | cvShPostImm | cvShPostReg => exact executes_postStore (.storeHalf _ _)
  | cvSwPostImm | cvSwPostReg => exact executes_postStore (.storeWord _ _)
  | cvSbIdx => exact executes_ifPulp fun _ => executes_storeDone (.inr rfl) (.storeByte _ _)
  | cvShIdx => exact executes_ifPulp fun _ => executes_storeDone (.inr rfl) (.storeHalf _ _)
  | cvSwIdx => exact executes_ifPulp fun _ => executes_storeDone (.inr rfl) (.storeWord _ _)
  | flw => exact executes_fpLoad (.inr rfl)
  | cFlw | cFlwsp => exact executes_fpLoad (.inl rfl)
  | fsw => exact executes_fpStore (.inr rfl)
  | cFsw | cFswsp => exact executes_fpStore (.inl rfl)
  | fmaddS | fmsubS | fnmsubS | fnmaddS | faddS | fsubS | fmulS | fdivS | fsqrtS | fcvtSW | fcvtSWu => exact executes_fpRounded
  | fcvtWS | fcvtWuS => exact executes_fpRoundedToInt
  | fsgnjS | fsgnjnS | fsgnjxS | fminS | fmaxS => exact executes_fpTo
  | feqS | fltS | fleS | fclassS => exact executes_fpToInt
  | fmvWX => exact executes_ifFRegs executes_fpTo
  | fmvXW => exact executes_ifFRegs executes_fpToInt
  | cNop => exact executes_retire (.inl rfl) .none
  | fence | fenceI => exact executes_retire (.inr rfl) .none
  | csrrw | csrrs | csrrc | csrrwi | csrrsi | csrrci => exact executes_csrAccess
  | wfi => exact executes_waitForInterrupt
  | mret => exact executes_machineReturn
  | dret => exact executes_debugReturn
  | ecall => exact executes_environmentCall
  | ebreak | cEbreak => exact executes_breakpoint
  | cvElw => exact executes_eventLoad
  | cvStarti | cvStart => exact executes_setLoopTo (.inr (bitsAre_wordAddr _)) (.inl rfl)
  | cvEndi | cvEnd => exact executes_setLoopTo (.inl rfl) (.inr (bitsAre_wordAddr _))
  | cvCounti | cvCount => exact executes_setLoopTo (.inl rfl) (.inl rfl)
  | cvSetupi | cvSetup => exact executes_setLoopTo (.inr (bitsAre_wordAddr _)) (.inr (bitsAre_wordAddr _))
  | _ => exact executes_xcv

end Sys2Proof.Machine
end

section
/-! SUPPORT. The fixed bits of words, addresses, mstatus and mcause, under the operations that the model writes them with. -/

namespace Sys2Proof.Machine

/-! Masks -/

/-- What a mask keeps does not show in the bits that it clears. -/
theorem bitsAre_and_mask {m k : Word} (v : Word) (h : k &&& m = 0) : bitsAre (v &&& k) m 0 := by
  unfold bitsAre
  rw [BitVec.and_assoc, h]
  exact BitVec.and_zero

theorem bitsAre_zero (m : Word) : bitsAre 0 m 0 := BitVec.zero_and

theorem bitsAre_or {a b m v w : Word} (ha : bitsAre a m v) (hb : bitsAre b m w) : bitsAre (a ||| b) m (v ||| w) := by
  unfold bitsAre at *
  rw [BitVec.and_comm, BitVec.and_or_distrib_left, BitVec.and_comm m a, BitVec.and_comm m b, ha, hb]

theorem bitsAre_and {a m v : Word} (k : Word) (h : bitsAre a m v) : bitsAre (a &&& k) m (v &&& k) := by
  unfold bitsAre at *
  rw [BitVec.and_assoc, BitVec.and_comm k m, ← BitVec.and_assoc, h]

/-- Bits that are 0 are 0 in a smaller mask. -/
theorem bitsAre_mono {a m : Word} (k : Word) (h : bitsAre a m 0) : bitsAre a (m &&& k) 0 := by
  unfold bitsAre at *
  rw [← BitVec.and_assoc, h]
  exact BitVec.zero_and

theorem bitsAre_one_iff {a : Word} : bitsAre a 1 0 ↔ a.toNat % 2 = 0 := by
  unfold bitsAre
  rw [← BitVec.toNat_inj, BitVec.toNat_and]
  exact iff_of_eq (congrArg (· = 0) (Nat.and_one_is_mod _))

/-- A multiple of 4 is even. -/
theorem bitsAre_one_of_three {a : Word} (h : bitsAre a 3 0) : bitsAre a 1 0 := bitsAre_mono 1 h

theorem bitsAre_one_add {a b : Word} (ha : bitsAre a 1 0) (hb : bitsAre b 1 0) : bitsAre (a + b) 1 0 := by
  rw [bitsAre_one_iff] at *
  rw [BitVec.toNat_add]
  omega

theorem bitsAre_one_of_len {len : Word} (h : len = 2 ∨ len = 4) : bitsAre len 1 0 := by
  rcases h with rfl | rfl <;> rfl

theorem bitsAre_instrAddr (a : Word) : bitsAre (instrAddr a) 1 0 := bitsAre_and_mask a rfl

/-- An address whose two low bits are 0 is even. -/
theorem bitsAre_one_of_extract {a : Word} (h : a.extractLsb' 0 2 = 0#2) : bitsAre a 1 0 := by
  have h' := congrArg BitVec.toNat h
  rw [BitVec.extractLsb'_toNat] at h'
  rw [bitsAre_one_iff]
  simp only [Nat.shiftRight_zero, BitVec.toNat_ofNat] at h'
  omega

/-- The musts of R12 to R14 on the three addresses. -/
theorem Config.legal_addresses {c : Config} (h : c.legal = true) :
    bitsAre c.bootAddr 1 0 ∧ bitsAre c.dmHaltAddr 1 0 ∧ bitsAre c.dmExceptionAddr 1 0 := by
  simp only [Config.legal, Bool.and_eq_true, beq_iff_eq] at h
  obtain ⟨⟨⟨-, hboot⟩, hhalt⟩, hexc⟩ := h
  refine ⟨?_, bitsAre_one_of_extract hhalt, bitsAre_one_of_extract hexc⟩
  have hb := congrArg BitVec.toNat hboot
  rw [BitVec.extractLsb'_toNat] at hb
  rw [bitsAre_one_iff]
  simpa using hb

/-! mstatus -/

/-- The bits of mstatus that trap entry and `mret` write can be written. -/
theorem mstatusMask_covers (c : Config) {k : Word} (h : k &&& 0x88 = k) : k &&& ~~~ mstatusMask c = 0 := by
  rw [← h, BitVec.and_assoc]
  unfold mstatusMask
  split <;> exact BitVec.and_zero

theorem bitsAre_statusOnTrap {c : Config} {m : Word} (h : bitsAre m (~~~ mstatusMask c) 0x1800) :
    bitsAre (statusOnTrap m) (~~~ mstatusMask c) 0x1800 := by
  unfold statusOnTrap
  rw [BitVec.shiftLeft_and_distrib]
  exact bitsAre_or (bitsAre_and 0xFFFFFF77 h) (bitsAre_and_mask _ (mstatusMask_covers c rfl))

theorem bitsAre_statusOnMret {c : Config} {m : Word} (h : bitsAre m (~~~ mstatusMask c) 0x1800) :
    bitsAre (statusOnMret m) (~~~ mstatusMask c) 0x1800 := by
  unfold statusOnMret
  rw [BitVec.ushiftRight_and_distrib]
  exact bitsAre_or (bitsAre_or (bitsAre_and 0xFFFFFF77 h) (bitsAre_and_mask _ (mstatusMask_covers c rfl)))
    (mstatusMask_covers c rfl)

/-- FS Dirty, where mstatus has an FS field (10_state R44). -/
theorem bitsAre_dirty {c : Config} {m : Word} (hf : hasFs c = true) (h : bitsAre m (~~~ mstatusMask c) 0x1800) :
    bitsAre (m ||| 0x6000) (~~~ mstatusMask c) 0x1800 := by
  refine bitsAre_or (w := 0) h ?_
  unfold mstatusMask
  rw [if_pos hf]
  rfl

/-- MPP reads 11 and cannot be written (10_state R48). -/
theorem bitsAre_mpp (c : Config) : bitsAre 0x1800 (~~~ mstatusMask c) 0x1800 := by
  unfold mstatusMask
  split <;> rfl

theorem bitsAre_mstatus_written (c : Config) (v : Word) :
    bitsAre (0x1800 ||| (v &&& mstatusMask c)) (~~~ mstatusMask c) 0x1800 :=
  bitsAre_or (v := 0x1800) (w := 0) (bitsAre_mpp c) (bitsAre_and_mask v (BitVec.and_not_self _))

/-! Causes -/

/-- The three exceptions are causes that the hart has (10_state R55). -/
theorem mcauseLegal_exception : ∀ code ∈ [(2 : Word), 3, 11], mcauseLegal code = true ∧ bitsAre code 0x7FFFFFE0 0 := by
  simp [bitsAre, mcauseLegal]

/-- So are the interrupts that can be selected. -/
theorem mcauseLegal_interrupt : ∀ id ∈ interruptOrder, mcauseLegal (0x80000000 ||| id.setWidth 32) = true ∧
    bitsAre (0x80000000 ||| id.setWidth 32) 0x7FFFFFE0 0 := by
  simp [bitsAre, mcauseLegal, interruptOrder]

theorem mcauseLegal_stored {v : Word} (h : mcauseLegal v = true) :
    mcauseLegal (v &&& 0x8000001F) = true ∧ bitsAre (v &&& 0x8000001F) 0x7FFFFFE0 0 := by
  refine ⟨?_, bitsAre_and_mask v rfl⟩
  have hc : (v &&& 0x8000001F).extractLsb' 0 5 = v.extractLsb' 0 5 := by
    rw [BitVec.extractLsb'_and]
    exact BitVec.and_allOnes
  have hb : (v &&& 0x8000001F).getLsbD 31 = v.getLsbD 31 := by simp
  unfold mcauseLegal at *
  rwa [hc, hb]

end Sys2Proof.Machine
end

section
/-! SUPPORT. The invariant, kept by each update that an instruction is made of. -/

namespace Sys2Proof.Machine

/-! The updates that an instruction is made of -/

theorem State.Inv.setReg {s : State} (h : s.Inv) (r : Reg) (v : Word) : (s.setReg r v).Inv := by
  have hx : (s.setReg r v).x[0] = 0 := by
    unfold State.setReg
    split
    · exact h.x0
    next hr => exact (Vector.getElem_set_ne r.toFin.isLt (by decide) (fun e => hr (BitVec.eq_of_toNat_eq e))).trans h.x0
  rw [State.setReg_frame]
  exact { h with x0 := hx, csr := { h.csr with } }

theorem State.Inv.setFreg {s : State} (h : s.Inv) (r : Reg) (v : Word) : (s.setFreg r v).Inv := by
  unfold State.setFreg
  split
  · exact h.setReg r v
  · exact { h with csr := { h.csr with } }

theorem State.Inv.accrue {s : State} (h : s.Inv) (fl : BitVec 5) : (s.accrue fl).Inv :=
  { h with csr := { h.csr with } }

theorem State.Inv.markDirty {s : State} (h : s.Inv) : s.markDirty.Inv := by
  unfold State.markDirty
  split
  next hf => exact { h with csr := { h.csr with mstatus := bitsAre_dirty hf h.csr.mstatus } }
  next => exact h

/-- A store keeps the invariant, when what it leaves in memory is in canonical form. -/
theorem State.Inv.store {s : State} (h : s.Inv) {m : Memory} (hm : m.wf = true) (a n : Word) :
    State.Inv { s.noteWords a n with mem := m } := by
  rw [State.noteWords_frame]
  exact { h with mem := hm, csr := { h.csr with } }

theorem State.Inv.storeByte {s : State} (h : s.Inv) (a : Word) (v : Byte) : (s.storeByte a v).Inv := by
  rw [State.storeByte_eq]
  exact h.store (Memory.wf_setByte a v h.mem) a 0

theorem State.Inv.storeHalf {s : State} (h : s.Inv) (a : Word) (v : BitVec 16) : (s.storeHalf a v).Inv := by
  rw [State.storeHalf_eq]
  exact h.store (Memory.wf_setHalf a v h.mem) a 1

theorem State.Inv.storeWord {s : State} (h : s.Inv) (a v : Word) : (s.storeWord a v).Inv := by
  rw [State.storeWord_eq]
  exact h.store (Memory.wf_setWord a v h.mem) a 3

theorem State.Inv.loop {s : State} (h : s.Inv) (l : BitVec 1) : (s.loop l).aligned := by
  unfold State.loop
  split
  · exact h.loop0
  · exact h.loop1

theorem State.Inv.setLoop {s : State} (h : s.Inv) (hp : s.cfg.corevPulp = true) (l : BitVec 1) {v : HwLoop}
    (hv : v.aligned) : (s.setLoop l v).Inv := by
  have hn : ∀ {P : Prop}, s.cfg.corevPulp = false → P := fun e => absurd (hp.symm.trans e) (by decide)
  unfold State.setLoop
  split
  · exact { h with loop0 := hv, noLoops := hn, csr := { h.csr with } }
  · exact { h with loop1 := hv, noLoops := hn, csr := { h.csr with } }

/-! CSR writes -/

theorem State.Inv.setCounter {s : State} (h : s.Inv) (k : BitVec 5) (v : BitVec 64) : (s.setCounter k v).Inv := by
  unfold State.setCounter
  split
  · exact { h with csr := { h.csr with } }
  split
  · exact { h with csr := { h.csr with } }
  split
  next hk =>
    refine { h with csr := { h.csr with hpm := fun i (hi : s.cfg.numMhpmcounters ≤ i.val) => ?_ } }
    rw [Fin.getElem_fin, Vector.getElem_mapIdx, if_neg (by omega)]
    exact h.csr.hpm i hi
  next => exact h

theorem State.Inv.setEventSelector {s : State} (h : s.Inv) (k : BitVec 5) (v : Word) : (s.setEventSelector k v).Inv := by
  unfold State.setEventSelector
  split
  next hk =>
    refine { h with csr := { h.csr with hpm := fun i (hi : s.cfg.numMhpmcounters ≤ i.val) => ?_ } }
    have hi' : i.val ≠ k.toNat - 3 := by omega
    simpa [hi'] using h.csr.hpm i hi
  next => exact h

theorem State.Inv.csrWritePlain {s t : State} (h : s.Inv) {a : BitVec 12} {v : Word}
    (ht : s.csrWritePlain a v = .next t) : t.Inv := by
  unfold State.csrWritePlain at ht
  split at ht
  -- fflags, frm, fcsr
  · cases ht; exact State.Inv.markDirty { h with csr := { h.csr with } }
  · cases ht; exact State.Inv.markDirty { h with csr := { h.csr with } }
  · cases ht; exact State.Inv.markDirty { h with csr := { h.csr with } }
  -- mstatus, mie, mtvec, mscratch, mepc
  · cases ht; exact { h with csr := { h.csr with mstatus := bitsAre_mstatus_written s.cfg v } }
  · cases ht; exact { h with csr := { h.csr with mie := bitsAre_and_mask v rfl } }
  · cases ht; exact { h with csr := { h.csr with mtvec := bitsAre_and_mask v rfl } }
  · cases ht; exact { h with csr := { h.csr with } }
  · cases ht; exact { h with csr := { h.csr with mepc := bitsAre_instrAddr v } }
  -- mcause
  · split at ht
    next hl => cases ht; exact { h with csr := { h.csr with mcause := mcauseLegal_stored hl } }
    next => cases ht
  -- tdata1, tdata2
  · cases ht
    split
    · exact { h with csr := { h.csr with tdata1 := bitsAre_or rfl (bitsAre_and_mask v rfl) } }
    · exact h
  · cases ht
    split
    · exact { h with csr := { h.csr with } }
    · exact h
  -- dcsr, dpc, dscratch0, dscratch1
  · cases ht
    exact { h with csr := { h.csr with dcsr := bitsAre_or (bitsAre_and _ h.csr.dcsr) (bitsAre_and_mask v rfl) } }
  · cases ht; exact { h with csr := { h.csr with dpc := bitsAre_instrAddr v } }
  · cases ht; exact { h with csr := { h.csr with } }
  · cases ht; exact { h with csr := { h.csr with } }
  -- every other address
  · cases ht; exact h

theorem State.Inv.csrWrite {s t : State} (h : s.Inv) {a : BitVec 12} {v : Word} (ht : s.csrWrite a v = .next t) :
    t.Inv := by
  unfold State.csrWrite at ht
  dsimp only at ht
  split at ht
  · cases ht; exact h.setCounter _ _
  · cases ht; exact h.setCounter _ _
  · cases ht
    split
    · exact { h with csr := { h.csr with mcountinhibit := bitsAre_and_mask v (BitVec.and_not_self _) } }
    · exact h.setEventSelector _ _
  · exact h.csrWritePlain ht

end Sys2Proof.Machine
end

section
/-! SUPPORT. What a step can do, and the invariant along it. -/

namespace Sys2Proof.Machine

/-! What no instruction's effect changes -/

theorem State.csrWrite_keeps {s t : State} {a : BitVec 12} {v : Word} (h : s.csrWrite a v = .next t) :
    t.cfg = s.cfg ∧ t.fetchEnabled = s.fetchEnabled ∧ t.x = s.x ∧ t.f = s.f ∧ t.mem = s.mem := by
  unfold State.csrWrite at h
  dsimp only at h
  split at h
  · cases h; simp
  · cases h; simp
  · cases h; split <;> simp
  · unfold State.csrWritePlain at h
    split at h
    case h_9 => split at h <;> cases h; simp
    all_goals cases h; (try split) <;> simp

theorem Effect.keeps {s t : State} (h : Effect s t) : t.cfg = s.cfg ∧ t.fetchEnabled = s.fetchEnabled := by
  induction h with
  | csr a v h =>
    obtain ⟨hc, hf, -⟩ := State.csrWrite_keeps h
    exact ⟨hc, hf⟩
  | reg _ _ _ ih | freg _ _ _ ih | flags _ _ ih | dirty _ ih => simpa using ih
  | _ => simp

/-! Completing an instruction -/

theorem State.retire_frame (s t : State) (r : Retired) :
    s.retire r t = { t with
      pc := (s.retire r t).pc, loop0 := (s.retire r t).loop0, loop1 := (s.retire r t).loop1
      minstret := (s.retire r t).minstret, hpmCounter := (s.retire r t).hpmCounter, stale := (s.retire r t).stale } := by
  unfold State.retire
  split <;> (try split) <;> rfl

theorem State.retire_minstret (s t : State) (r : Retired) : (s.retire r t).minstret = retireInstret s r t.minstret := by
  unfold State.retire
  split <;> (try split) <;> rfl

theorem State.retire_hpmCounter (s t : State) (r : Retired) (i : Fin 29) :
    (s.retire r t).hpmCounter[i] = retireCounter s r i t.hpmCounter[i] := by
  have h : (s.retire r t).hpmCounter = t.hpmCounter.mapIdx (fun i c => retireCounter s r i c) := by
    unfold State.retire
    split <;> (try split) <;> rfl
  rw [h]
  exact Vector.getElem_mapIdx ..

/-- Retiring changes no loop but the count of one, where there are loops (45_xcv_hwloop R413). -/
theorem State.retire_loops (s t : State) (r : Retired) :
    (s.retire r t).loop0 = t.loop0 ∧ (s.retire r t).loop1 = t.loop1 ∨
    s.cfg.corevPulp = true ∧ ∃ n0 n1, (s.retire r t).loop0 = { t.loop0 with count := n0 } ∧
      (s.retire r t).loop1 = { t.loop1 with count := n1 } := by
  have hp : ∀ {k}, s.loopBack = some k → s.cfg.corevPulp = true := by
    unfold State.loopBack
    cases s.cfg.corevPulp <;> simp
  unfold State.retire
  split
  · exact .inl ⟨rfl, rfl⟩
  split
  next hk => exact .inr ⟨hp hk, _, t.loop1.count, rfl, rfl⟩
  next hk => exact .inr ⟨hp hk, t.loop0.count, _, rfl, rfl⟩
  next => exact .inl ⟨rfl, rfl⟩

/-- The next pc is even (10_state R33). -/
theorem State.Inv.retire_pc {s : State} (h : s.Inv) (t : State) {r : Retired} (hl : r.len = 2 ∨ r.len = 4) :
    bitsAre (s.retire r t).pc 1 0 := by
  have hf : bitsAre (s.pc + r.len) 1 0 := bitsAre_one_add h.pc (bitsAre_one_of_len hl)
  have hb : ∀ {l : HwLoop}, l.aligned → bitsAre (l.next s.pc r.len) 1 0 := fun ha => by
    unfold HwLoop.next
    split
    · exact hf
    · exact bitsAre_one_of_three ha.1
  unfold State.retire
  split
  · exact bitsAre_instrAddr _
  split
  · exact hb h.loop0
  · exact hb h.loop1
  · exact hf

theorem retireCounter_unimplemented {s : State} {r : Retired} {i : Nat} {c : BitVec 64} (h : s.cfg.numMhpmcounters ≤ i) :
    retireCounter s r i c = c := by
  unfold retireCounter
  rw [decide_eq_false (Nat.not_lt.2 h)]
  rfl

theorem State.Inv.retire {s t : State} (h : s.Inv) (ht : t.Inv) (hc : t.cfg = s.cfg) {r : Retired}
    (hl : r.len = 2 ∨ r.len = 4) : (s.retire r t).Inv := by
  have hpc := h.retire_pc t hl
  have hhpm : ∀ i : Fin 29, t.cfg.numMhpmcounters ≤ i.val → (s.retire r t).hpmCounter[i] = 0 ∧ t.hpmEvent[i] = 0 := by
    intro i hi
    rw [State.retire_hpmCounter, retireCounter_unimplemented (hc ▸ hi)]
    exact ht.csr.hpm i hi
  have hloops : (s.retire r t).loop0.aligned ∧ (s.retire r t).loop1.aligned ∧
      (t.cfg.corevPulp = false → (s.retire r t).loop0.count = 0 ∧ (s.retire r t).loop1.count = 0) := by
    rcases s.retire_loops t r with ⟨h0, h1⟩ | ⟨hp, n0, n1, h0, h1⟩
    · rw [h0, h1]; exact ⟨ht.loop0, ht.loop1, ht.noLoops⟩
    · rw [h0, h1]; exact ⟨ht.loop0, ht.loop1, fun e => absurd (hp.symm.trans (hc ▸ e)) (by decide)⟩
  obtain ⟨h0, h1, hn⟩ := hloops
  rw [State.retire_frame]
  exact { ht with pc := hpc, loop0 := h0, loop1 := h1, noLoops := hn, csr := { ht.csr with hpm := hhpm } }

theorem Effect.inv {s t : State} (h : Effect s t) (hs : s.Inv) : t.Inv := by
  induction h with
  | none => exact hs
  | reg r v _ ih => exact ih.setReg r v
  | freg r v _ ih => exact ih.setFreg r v
  | flags fl _ ih => exact ih.accrue fl
  | dirty _ ih => exact ih.markDirty
  | storeByte a v => exact hs.storeByte a v
  | storeHalf a v => exact hs.storeHalf a v
  | storeWord a v => exact hs.storeWord a v
  | loop l v hp hstart hstop =>
    obtain ⟨ha, hb⟩ := hs.loop l
    exact hs.setLoop hp l ⟨hstart.elim (· ▸ ha) id, hstop.elim (· ▸ hb) id⟩
  | csr a v h => exact hs.csrWrite h
  | sleep hd => exact { hs with csr := { hs.csr with }, sleep := fun e => absurd (hd.symm.trans e) (by decide) }
  | trapReturn => exact { hs with csr := { hs.csr with mstatus := bitsAre_statusOnMret hs.csr.mstatus } }
  | debugReturn => exact { hs with csr := { hs.csr with }, debug := nofun, sleep := nofun, request := fun e _ => e }

/-! Traps and Debug Mode -/

theorem bitsAre_trapBase (m : Word) : bitsAre (trapBase m) 1 0 := bitsAre_and_mask m rfl

theorem bitsAre_interruptTarget (m : Word) (id : BitVec 5) : bitsAre (interruptTarget m id) 1 0 := by
  have hid : ∀ id : BitVec 5, id.setWidth 32 <<< 2 &&& (1 : Word) = 0 := by decide
  unfold interruptTarget
  split
  · exact bitsAre_one_add (bitsAre_trapBase m) (hid id)
  · exact bitsAre_trapBase m

theorem bitsAre_dcsrWithCause {d : Word} (h : bitsAre d 0xFFFF763B 0x40000003) (c : BitVec 3) :
    bitsAre (dcsrWithCause d c) 0xFFFF763B 0x40000003 := by
  have hc : ∀ c : BitVec 3, c.setWidth 32 <<< 6 &&& (0xFFFF763B : Word) = 0 := by decide
  exact bitsAre_or (bitsAre_and _ h) (hc c)

theorem State.Inv.enterTrap {s : State} (h : s.Inv) (epc : Word) {cause target : Word}
    (hc : mcauseLegal cause = true ∧ bitsAre cause 0x7FFFFFE0 0) (ht : bitsAre target 1 0) :
    (s.enterTrap epc cause target).Inv :=
  { h with
    pc := ht
    csr := { h.csr with
      mepc := bitsAre_instrAddr epc, mcause := hc, mstatus := bitsAre_statusOnTrap h.csr.mstatus } }

/-- Going to an even address and forgetting what was prefetched. -/
theorem State.Inv.jump {s : State} (h : s.Inv) {p : Word} (hp : bitsAre p 1 0) :
    State.Inv { s with pc := p, stale := [] } :=
  { h with pc := hp, csr := { h.csr with } }

theorem State.Inv.raise {s : State} (h : s.Inv) (hl : s.cfg.legal = true) {code : Word}
    (hc : code ∈ [(2 : Word), 3, 11]) : (s.raise code).Inv := by
  obtain ⟨-, -, hexc⟩ := Config.legal_addresses hl
  unfold State.raise
  split
  · exact h.jump hexc
  · exact h.enterTrap s.pc (mcauseLegal_exception code hc) (bitsAre_trapBase _)

theorem State.Inv.takeInterrupt {s : State} (h : s.Inv) {id : BitVec 5} (hid : id ∈ interruptOrder) :
    (s.takeInterrupt id).Inv :=
  have ht := h.enterTrap s.pc (mcauseLegal_interrupt id hid) (bitsAre_interruptTarget s.mtvec id)
  { ht with csr := { ht.csr with } }

/-- An awake hart enters Debug Mode awake. -/
theorem State.Inv.enterDebug {s : State} (h : s.Inv) (hl : s.cfg.legal = true) (hs : s.sleeping = false) (c : BitVec 3) :
    (s.enterDebug c).Inv := by
  obtain ⟨-, hhalt, -⟩ := Config.legal_addresses hl
  exact { h with
    pc := hhalt
    csr := { h.csr with dpc := bitsAre_instrAddr s.pc, dcsr := bitsAre_dcsrWithCause h.csr.dcsr c }
    debug := fun _ => rfl
    sleep := fun _ => hs
    request := nofun }

theorem State.Inv.waitForEvent {s : State} (h : s.Inv) (w : EventRead) : (s.waitForEvent w).Inv := by
  refine { h with csr := { h.csr with }, sleep := fun (hd : s.debugMode = true) => ?_ }
  simp [State.waitForEvent, hd]

theorem Executes.inv {s t : State} (h : Executes s t) (hs : s.Inv) (hl : s.cfg.legal = true) (ha : s.sleeping = false) :
    t.Inv := by
  cases h with
  | retires hlen he => exact hs.retire (he.inv hs) he.keeps.1 hlen
  | traps code hc => exact hs.raise hl hc
  | restarts p hp =>
    obtain ⟨-, hhalt, hexc⟩ := Config.legal_addresses hl
    exact hs.jump (hp.elim (· ▸ hhalt) (· ▸ hexc))
  | halts => exact hs.enterDebug hl ha 1
  | waits w => exact hs.waitForEvent w

theorem Executes.fetchEnabled {s t : State} (h : Executes s t) : t.fetchEnabled = s.fetchEnabled := by
  cases h with
  | retires _ he => simpa using he.keeps.2
  | _ => simp

/-! ### What a step can do -/

theorem State.interruptToTake_mem {s : State} {id : BitVec 5} (h : s.interruptToTake = some id) : id ∈ interruptOrder := by
  unfold State.interruptToTake at h
  split at h
  · exact List.mem_of_find?_eq_some h
  · cases h

/-- Before an instruction there is an entry into Debug Mode or an interrupt, or nothing (60_exceptions R819). -/
theorem State.boundary_cases {s t : State} (h : s.boundary = some t) :
    (∃ c, t = s.enterDebug c) ∨ ∃ id ∈ interruptOrder, t = s.takeInterrupt id := by
  unfold State.boundary at h
  split at h
  · cases h; exact .inl ⟨_, rfl⟩
  split at h
  · cases h; exact .inl ⟨_, rfl⟩
  split at h
  next hid => cases h; exact .inr ⟨_, State.interruptToTake_mem hid, rfl⟩
  next =>
    split at h <;> cases h
    exact .inl ⟨_, rfl⟩

theorem runInstr_executes {i : Instr} {s t : State} (h : runInstr i s = .next t) : ∃ u, Executes s u ∧ t = s.afterStep u := by
  unfold runInstr at h
  split at h
  next u hu =>
    split at h <;> cases h
    exact ⟨u, exec_executes i s u hu, rfl⟩
  all_goals cases h

theorem runUndecodable_executes {s t : State} (h : runUndecodable s = .next t) :
    ∃ u, Executes s u ∧ t = s.afterStep u := by
  unfold runUndecodable at h
  split at h <;> cases h
  exact ⟨_, .traps 2 (by decide), rfl⟩

theorem State.goOn_executes {s t : State} {w : Option EventRead} (h : s.goOn w = .next t) :
    ∃ u, Executes s u ∧ t = s.afterStep u := by
  unfold State.goOn State.fetchAndRun runDecoded at h
  split at h
  · exact runInstr_executes h
  split at h
  · exact runInstr_executes h
  · exact runUndecodable_executes h

/-- A step of the awake hart is an event or an instruction. -/
theorem State.awakeStep_cases {s t : State} (h : s.awakeStep = .next t) :
    s.beginStep.boundary = some t ∨ ∃ u, Executes s.beginStep u ∧ t = s.beginStep.afterStep u := by
  unfold State.awakeStep at h
  dsimp only at h
  split at h
  next hb =>
    cases h
    split at hb
    · exact .inl hb
    · cases hb
  next => exact .inr (State.goOn_executes h)

/-- A step of the fetch-enabled hart leaves it as it is, asleep, or is a step of the awake hart. -/
theorem State.runningStep_cases {s t : State} (h : s.runningStep = .next t) : t = s ∨ s.awakeStep = .next t := by
  unfold State.runningStep at h
  split at h
  · split at h <;> cases h
    exact .inl rfl
  split at h
  · cases h; exact .inl rfl
  · exact .inr h

/-- A step does nothing, sets the fetch-enable latch, or is a step of the awake hart, which may set the latch first. -/
theorem step_cases {s t : State} (h : step s = .next t) :
    s.cfg.legal = true ∧
      ∃ e : State, (e = s ∨ e = { s with fetchEnabled := true }) ∧ (t = e ∨ e.awakeStep = .next t) := by
  unfold step at h
  split at h
  · cases h
  next hl =>
    refine ⟨by simpa using hl, ?_⟩
    split at h
    · unfold State.startStep at h
      split at h
      · cases h; exact ⟨s, .inl rfl, .inl rfl⟩
      split at h
      · exact ⟨_, .inr rfl, State.runningStep_cases h⟩
      · cases h; exact ⟨_, .inr rfl, .inl rfl⟩
    · exact ⟨s, .inl rfl, State.runningStep_cases h⟩

/-! ### The invariant along a step -/

theorem tickCounter_unimplemented {s : State} {i : Nat} {c : BitVec 64} (h : s.cfg.numMhpmcounters ≤ i) :
    tickCounter s i c = c := if_pos h

theorem State.Inv.beginStep {s : State} (h : s.Inv) : s.beginStep.Inv := by
  refine { h with csr := { h.csr with hpm := fun i (hi : s.cfg.numMhpmcounters ≤ i.val) => ?_ }, sleep := fun _ => rfl }
  have ht : s.beginStep.hpmCounter[i] = tickCounter s i s.hpmCounter[i] := Vector.getElem_mapIdx ..
  rw [ht, tickCounter_unimplemented hi]
  exact h.csr.hpm i hi

theorem State.Inv.afterStep {t : State} (h : t.Inv) (s : State) : (s.afterStep t).Inv := by
  unfold State.afterStep
  split
  next hc =>
    simp only [Bool.and_eq_true, Bool.not_eq_true'] at hc
    obtain ⟨⟨-, hd⟩, -⟩ := hc
    exact { h with csr := { h.csr with }, debug := fun e => absurd (hd.symm.trans e) (by decide) }
  next => exact h

theorem State.Inv.boundary {s t : State} (h : s.Inv) (hl : s.cfg.legal = true) (ha : s.sleeping = false)
    (hb : s.boundary = some t) : t.Inv := by
  rcases State.boundary_cases hb with ⟨c, rfl⟩ | ⟨id, hid, rfl⟩
  · exact h.enterDebug hl ha c
  · exact h.takeInterrupt hid

theorem State.Inv.awakeStep {s t : State} (h : s.Inv) (hl : s.cfg.legal = true) (ht : s.awakeStep = .next t) : t.Inv := by
  have hb : s.beginStep.cfg.legal = true := hl
  rcases State.awakeStep_cases ht with he | ⟨u, hu, rfl⟩
  · exact h.beginStep.boundary hb rfl he
  · exact (hu.inv h.beginStep hb rfl).afterStep _

/-- Settles O4: the invariant of every update, through what a step can do. -/
theorem stepKeepsInvariant : Obligations.StepKeepsInvariant := by
  intro s t hs h
  obtain ⟨hl, e, he, ht⟩ := step_cases h
  have hi : e.Inv ∧ e.cfg.legal = true := by
    rcases he with rfl | rfl
    · exact ⟨hs, hl⟩
    · exact ⟨{ hs with csr := { hs.csr with } }, hl⟩
  rcases ht with rfl | ht
  · exact hi.1
  · exact hi.1.awakeStep hi.2 ht

end Sys2Proof.Machine
end

section
/-! SUPPORT. The control and status registers: their masks bit by bit, and the counter banks. -/

namespace Sys2Proof.Machine

/-! Masks, bit by bit -/

/-- The bits of mcountinhibit that exist (10_state R69). -/
theorem getLsbD_countInhibitMask (c : Config) {n : Nat} (hn : n < 32) : (countInhibitMask c).getLsbD n =
    (decide (n = 0 ∨ n = 2) || decide (3 ≤ n ∧ n < 3 + c.numMhpmcounters)) := by
  have h5 : ∀ n < 32, ((5 : Nat) : Word).getLsbD n = decide (n = 0 ∨ n = 2) := by decide
  have hones : (((1 <<< c.numMhpmcounters - 1) <<< 3 : Nat) : Word).getLsbD n =
      decide (3 ≤ n ∧ n < 3 + c.numMhpmcounters) := by
    rw [BitVec.natCast_eq_ofNat, BitVec.getLsbD_ofNat, decide_eq_true hn, Bool.true_and, Nat.testBit_shiftLeft,
      Nat.one_shiftLeft, Nat.testBit_two_pow_sub_one, ← Bool.decide_and]
    exact decide_eq_decide.2 (by omega)
  exact (BitVec.getLsbD_or ..).trans (congrArg₂ or (h5 n hn) hones)

/-- Storing the bits of `m` alone. -/
theorem getLsbD_masked (d v m : Word) {n : Nat} (hn : n < 32) :
    (d &&& ~~~ m ||| v &&& m).getLsbD n = if m.getLsbD n then v.getLsbD n else d.getLsbD n := by
  simp only [BitVec.getLsbD_or, BitVec.getLsbD_and, BitVec.getLsbD_not, hn, decide_true, Bool.true_and]
  cases m.getLsbD n <;> simp

/-! The floating-point unit -/

theorem State.fpUsable_iff {s : State} : s.fpUsable = true ↔ FpOn s := by
  unfold State.fpUsable FpOn statusFs
  simp

theorem hasFs_iff {c : Config} : hasFs c = true ↔ c.fpu = true ∧ c.zfinx = false := by
  simp [hasFs]

theorem State.markDirty_eq {s : State} (h : s.cfg.fpu = true) :
    s.markDirty = { s with mstatus := if s.cfg.zfinx then s.mstatus else s.mstatus ||| 0x6000 } := by
  unfold State.markDirty hasFs
  rw [h]
  cases s.cfg.zfinx <;> rfl

/-! The counter banks -/

theorem toNat_bank (a : BitVec 12) : (a.extractLsb' 5 7).toNat = a.toNat / 32 := by
  rw [BitVec.extractLsb'_toNat, Nat.shiftRight_eq_div_pow]
  have := a.isLt
  omega

theorem toNat_number (a : BitVec 12) : (a.extractLsb' 0 5).toNat = a.toNat % 32 := BitVec.extractLsb'_toNat ..

/-- The addresses of the event counters of one bank, from that of number 3 on. -/
theorem bank_address {b : BitVec 12} (hb : b.extractLsb' 0 5 = 3#5) (k : Fin 29) :
    (b + BitVec.ofNat 12 k).extractLsb' 5 7 = b.extractLsb' 5 7 ∧
      (b + BitVec.ofNat 12 k).extractLsb' 0 5 = BitVec.ofNat 5 (k + 3) := by
  have h3 : b.toNat % 32 = 3 := by rw [← toNat_number, hb]; rfl
  have hk := k.isLt
  have hl := b.isLt
  constructor
  · rw [← BitVec.toNat_inj, toNat_bank, toNat_bank, BitVec.toNat_add, BitVec.toNat_ofNat]
    omega
  · rw [← BitVec.toNat_inj, toNat_number, BitVec.toNat_add, BitVec.toNat_ofNat, BitVec.toNat_ofNat]
    omega

/-- The numbers of the event counters. -/
theorem hpm_number (k : Fin 29) :
    (BitVec.ofNat 5 (k + 3)).toNat = k + 3 ∧ BitVec.ofNat 5 (k + 3) ≠ 0 ∧ BitVec.ofNat 5 (k + 3) ≠ 1 ∧
      BitVec.ofNat 5 (k + 3) ≠ 2 := by
  revert k; decide

/-- Event counter `k` + 3. -/
theorem State.counter_hpm (s : State) (k : Fin 29) : s.counter (BitVec.ofNat 5 (k + 3)) = some s.hpmCounter[k] := by
  obtain ⟨hn, h0, h1, h2⟩ := hpm_number k
  unfold State.counter
  rw [if_neg h0, if_neg h1, if_neg h2, hn]
  simp [Array.getD]

/-- Replacing one entry by position is replacing it by number. -/
theorem mapIdx_eq_set {α : Type} (v : Vector α 29) (k : Fin 29) (y : α) :
    v.mapIdx (fun i c => if i = k.val then y else c) = v.set k y := by
  ext i hi
  rw [Vector.getElem_mapIdx, Vector.getElem_set]
  simp only [eq_comm]

theorem State.setCounter_hpm (s : State) (k : Fin 29) (v : BitVec 64) : s.setCounter (BitVec.ofNat 5 (k + 3)) v =
    if k.val < s.cfg.numMhpmcounters then { s with hpmCounter := s.hpmCounter.set k v } else s := by
  obtain ⟨hn, h0, -, h2⟩ := hpm_number k
  unfold State.setCounter
  rw [if_neg h0, if_neg h2, hn, Nat.add_sub_cancel, mapIdx_eq_set]

theorem State.eventSelector_hpm (s : State) (k : Fin 29) :
    s.eventSelector (BitVec.ofNat 5 (k + 3)) = s.hpmEvent[k].setWidth 32 := by
  obtain ⟨hn, -⟩ := hpm_number k
  unfold State.eventSelector
  rw [hn]
  simp [Array.getD]

theorem State.setEventSelector_hpm (s : State) (k : Fin 29) (v : Word) : s.setEventSelector (BitVec.ofNat 5 (k + 3)) v =
    if k.val < s.cfg.numMhpmcounters then { s with hpmEvent := s.hpmEvent.set k (v.setWidth 16) } else s := by
  obtain ⟨hn, -⟩ := hpm_number k
  unfold State.setEventSelector
  rw [hn, Nat.add_sub_cancel, mapIdx_eq_set]

/-! Reads, bank by bank -/

theorem State.csrRead_low {s : State} {a : BitVec 12} (h : a.extractLsb' 5 7 = 0x58#7 ∨ a.extractLsb' 5 7 = 0x60#7) :
    s.csrRead a = (s.counter (a.extractLsb' 0 5)).map (·.extractLsb' 0 32) := by
  rcases h with h | h <;> simp [State.csrRead, h]

theorem State.csrRead_high {s : State} {a : BitVec 12} (h : a.extractLsb' 5 7 = 0x5C#7 ∨ a.extractLsb' 5 7 = 0x64#7) :
    s.csrRead a = (s.counter (a.extractLsb' 0 5)).map (·.extractLsb' 32 32) := by
  rcases h with h | h <;> simp [State.csrRead, h]

theorem State.csrRead_selector {s : State} {a : BitVec 12} (h : a.extractLsb' 5 7 = 0x19#7) : s.csrRead a =
    if a.extractLsb' 0 5 = 0 then some s.mcountinhibit else if (a.extractLsb' 0 5).ult 3 then none
      else some (s.eventSelector (a.extractLsb' 0 5)) := by
  simp [State.csrRead, h]

/-- The low half of event counter `k` + 3. -/
theorem State.csrRead_hpm_low (s : State) (k : Fin 29) {b : BitVec 12} (h : b = 0xB03 ∨ b = 0xC03) :
    s.csrRead (b + BitVec.ofNat 12 k) = some (s.hpmCounter[k].extractLsb' 0 32) := by
  have hb : b.extractLsb' 0 5 = 3#5 := by rcases h with rfl | rfl <;> rfl
  obtain ⟨hbank, hnum⟩ := bank_address hb k
  rw [State.csrRead_low (by rw [hbank]; rcases h with rfl | rfl <;> decide), hnum, State.counter_hpm]
  rfl

/-- The high half. -/
theorem State.csrRead_hpm_high (s : State) (k : Fin 29) {b : BitVec 12} (h : b = 0xB83 ∨ b = 0xC83) :
    s.csrRead (b + BitVec.ofNat 12 k) = some (s.hpmCounter[k].extractLsb' 32 32) := by
  have hb : b.extractLsb' 0 5 = 3#5 := by rcases h with rfl | rfl <;> rfl
  obtain ⟨hbank, hnum⟩ := bank_address hb k
  rw [State.csrRead_high (by rw [hbank]; rcases h with rfl | rfl <;> decide), hnum, State.counter_hpm]
  rfl

/-- The selector of event counter `k` + 3. -/
theorem State.csrRead_hpm_selector (s : State) (k : Fin 29) :
    s.csrRead (0x323 + BitVec.ofNat 12 k) = some (s.hpmEvent[k].setWidth 32) := by
  obtain ⟨hbank, hnum⟩ := bank_address (b := 0x323) rfl k
  have hult : ∀ k : Fin 29, (BitVec.ofNat 5 (k + 3)).ult 3 = false := by decide
  rw [State.csrRead_selector (hbank.trans rfl), hnum, if_neg (hpm_number k).2.1, hult, State.eventSelector_hpm]
  rfl

/-! Writes, bank by bank -/

theorem State.csrWrite_low {s : State} {a : BitVec 12} (h : a.extractLsb' 5 7 = 0x58#7) (v : Word) : s.csrWrite a v =
    .next (s.setCounter (a.extractLsb' 0 5) (((s.counter (a.extractLsb' 0 5)).getD 0).extractLsb' 32 32 ++ v)) := by
  simp [State.csrWrite, h]

theorem State.csrWrite_high {s : State} {a : BitVec 12} (h : a.extractLsb' 5 7 = 0x5C#7) (v : Word) : s.csrWrite a v =
    .next (s.setCounter (a.extractLsb' 0 5) (v ++ ((s.counter (a.extractLsb' 0 5)).getD 0).extractLsb' 0 32)) := by
  simp [State.csrWrite, h]

theorem State.csrWrite_selector {s : State} {a : BitVec 12} (h : a.extractLsb' 5 7 = 0x19#7) (v : Word) : s.csrWrite a v =
    .next (if a.extractLsb' 0 5 = 0 then { s with mcountinhibit := v &&& countInhibitMask s.cfg }
      else s.setEventSelector (a.extractLsb' 0 5) v) := by
  simp [State.csrWrite, h]

/-- The low half of event counter `k` + 3. -/
theorem State.csrWrite_hpm_low (s : State) (k : Fin 29) (w : Word) : s.csrWrite (0xB03 + BitVec.ofNat 12 k) w =
    .next (if k.val < s.cfg.numMhpmcounters then
      { s with hpmCounter := s.hpmCounter.set k (s.hpmCounter[k].extractLsb' 32 32 ++ w) } else s) := by
  obtain ⟨hbank, hnum⟩ := bank_address (b := 0xB03) rfl k
  rw [State.csrWrite_low (hbank.trans rfl), hnum, State.counter_hpm, State.setCounter_hpm]
  rfl

/-- The high half. -/
theorem State.csrWrite_hpm_high (s : State) (k : Fin 29) (w : Word) : s.csrWrite (0xB83 + BitVec.ofNat 12 k) w =
    .next (if k.val < s.cfg.numMhpmcounters then
      { s with hpmCounter := s.hpmCounter.set k (w ++ s.hpmCounter[k].extractLsb' 0 32) } else s) := by
  obtain ⟨hbank, hnum⟩ := bank_address (b := 0xB83) rfl k
  rw [State.csrWrite_high (hbank.trans rfl), hnum, State.counter_hpm, State.setCounter_hpm]
  rfl

/-- The selector of event counter `k` + 3. -/
theorem State.csrWrite_hpm_selector (s : State) (k : Fin 29) (w : Word) : s.csrWrite (0x323 + BitVec.ofNat 12 k) w =
    .next (if k.val < s.cfg.numMhpmcounters then { s with hpmEvent := s.hpmEvent.set k (w.setWidth 16) } else s) := by
  obtain ⟨hbank, hnum⟩ := bank_address (b := 0x323) rfl k
  rw [State.csrWrite_selector (hbank.trans rfl), hnum, if_neg (hpm_number k).2.1, State.setEventSelector_hpm]

end Sys2Proof.Machine
end

section
/-! SUPPORT. What CSR reads give, and the state after reset. -/

namespace Sys2Proof.Machine

/-! ### Reads -/

/-- The parameters that misa tells, as a sum (10_state R50). -/
theorem misaValue_eq (c : Config) : misaValue c = 0x40001104 + (if c.fpu = true ∧ c.zfinx = false then 0x20 else 0) +
    (if c.corevPulp = true ∨ c.corevCluster = true then 0x800000 else 0) := by
  unfold misaValue
  simp only [hasFs_iff, Bool.or_eq_true]
  split <;> split <;> rfl

theorem mimpidValue_eq (c : Config) :
    mimpidValue c = if c.fpu = true ∨ c.corevPulp = true ∨ c.corevCluster = true then 1 else 0 := by
  unfold mimpidValue
  simp [or_assoc]

/-- The floating-point CSRs, where the unit is on (10_state R41 to R43). -/
theorem State.csrRead_fp {s : State} (h : FpOn s) :
    s.csrRead 0x003 = some ((s.frm ++ s.fflags).setWidth 32) ∧ s.csrRead 0x001 = some (s.fflags.setWidth 32) ∧
      s.csrRead 0x002 = some (s.frm.setWidth 32) := by
  have hu := State.fpUsable_iff.2 h
  exact ⟨if_pos hu, if_pos hu, if_pos hu⟩

/-- The custom CSRs of COREV_PULP (10_state R96 to R102). -/
theorem State.csrRead_pulp {s : State} (h : s.cfg.corevPulp = true) :
    (s.csrRead 0xCC0 = some s.loop0.start ∧ s.csrRead 0xCC1 = some s.loop0.stop ∧ s.csrRead 0xCC2 = some s.loop0.count ∧
      s.csrRead 0xCC4 = some s.loop1.start ∧ s.csrRead 0xCC5 = some s.loop1.stop ∧ s.csrRead 0xCC6 = some s.loop1.count) ∧
    s.csrRead 0xCD0 = some s.cfg.hartId ∧ s.csrRead 0xCD1 = some 3 ∧ (s.cfg.fpu = false → s.csrRead 0xCD2 = some 0) ∧
      (s.cfg.fpu = true → s.csrRead 0xCD2 = if s.cfg.zfinx then some 1 else none) := by
  have hz : s.csrRead 0xCD2 = onlyIf (s.cfg.corevPulp && (!s.cfg.fpu || s.cfg.zfinx))
    (if s.cfg.fpu && s.cfg.zfinx then 1 else 0) := rfl
  refine ⟨⟨if_pos h, if_pos h, if_pos h, if_pos h, if_pos h, if_pos h⟩, if_pos h, if_pos h, fun hf => ?_, fun hf => ?_⟩
  · rw [hz, h, hf]; rfl
  · rw [hz, h, hf]; cases s.cfg.zfinx <;> rfl

/-- The address ranges of the CSR map (10_state R40), the last one included. -/
def csrMap : List (Nat × Nat) :=
  [(0x001, 0x003), (0x300, 0x301), (0x304, 0x305), (0x320, 0x320), (0x323, 0x33F), (0x340, 0x344), (0x7A0, 0x7A4),
    (0x7A8, 0x7A8), (0x7AA, 0x7AA), (0x7B0, 0x7B3), (0xB00, 0xB00), (0xB02, 0xB1F), (0xB80, 0xB80), (0xB82, 0xB9F),
    (0xC00, 0xC00), (0xC02, 0xC1F), (0xC80, 0xC80), (0xC82, 0xC9F), (0xCC0, 0xCC2), (0xCC4, 0xCC6), (0xCD0, 0xCD2),
    (0xF11, 0xF14)]

/-- `a` lies in no range of the map. -/
def OutsideMap (a : BitVec 12) : Prop := ∀ r ∈ csrMap, a.toNat < r.1 ∨ r.2 < a.toNat

/-- In a counter bank only number 1 is outside the map. -/
theorem OutsideMap.number {a : BitVec 12} (h : OutsideMap a) {b : BitVec 7} (hb : a.extractLsb' 5 7 = b)
    (hm : b ∈ [0x58#7, 0x60#7, 0x5C#7, 0x64#7]) : a.extractLsb' 0 5 = 1 := by
  have hbank : a.toNat / 32 = b.toNat := by rw [← toNat_bank, hb]
  have hnum : a.toNat % 32 = 1 := by
    simp only [OutsideMap, csrMap, List.forall_mem_cons] at h
    simp only [List.mem_cons, List.not_mem_nil, or_false] at hm
    obtain ⟨-, -, -, -, -, -, -, -, -, -, h1, h2, h3, h4, h5, h6, h7, h8, -⟩ := h
    rcases hm with rfl | rfl | rfl | rfl <;> simp at hbank <;> omega
  rw [← BitVec.toNat_inj, toNat_number, hnum]
  rfl

/-- In the bank of mcountinhibit and the selectors the numbers 1 and 2 are. -/
theorem OutsideMap.selector {a : BitVec 12} (h : OutsideMap a) (hb : a.extractLsb' 5 7 = 0x19#7) :
    a.extractLsb' 0 5 ≠ 0 ∧ (a.extractLsb' 0 5).ult 3 = true := by
  have hbank : a.toNat / 32 = 25 := by rw [← toNat_bank, hb]; rfl
  have hm : a.toNat % 32 ≠ 0 ∧ a.toNat % 32 < 3 := by
    simp only [OutsideMap, csrMap, List.forall_mem_cons] at h
    obtain ⟨-, -, -, h1, h2, -⟩ := h
    omega
  rw [← toNat_number] at hm
  obtain ⟨h0, h3⟩ := hm
  exact ⟨fun e => h0 (congrArg BitVec.toNat e), by simpa [BitVec.ult] using h3⟩

/-- Nothing outside the map is implemented (10_state R40). -/
theorem State.csrReadPlain_outside {s : State} {a : BitVec 12} (h : OutsideMap a) : s.csrReadPlain a = none := by
  unfold State.csrReadPlain
  split
  case h_37 => rfl
  all_goals exact absurd h (by unfold OutsideMap; decide)

theorem State.csrRead_outside {s : State} {a : BitVec 12} (h : OutsideMap a) : s.csrRead a = none := by
  unfold State.csrRead
  dsimp only
  split
  next hb => rw [h.number hb (by decide)]; rfl
  next hb => rw [h.number hb (by decide)]; rfl
  next hb => rw [h.number hb (by decide)]; rfl
  next hb => rw [h.number hb (by decide)]; rfl
  next hb => rw [if_neg (h.selector hb).1, if_pos (h.selector hb).2]
  next => exact State.csrReadPlain_outside h

/-- Settles O27: the fixed addresses by evaluation, the counter banks by their rule, and nothing outside the map of R40. -/
theorem csrReadsGiveSpecValues : Obligations.CsrReadsGiveSpecValues := by
  intro s k
  refine ⟨⟨rfl, rfl, rfl, rfl, rfl, rfl, rfl, rfl⟩, ⟨rfl, rfl, rfl, rfl, rfl, rfl, rfl⟩,
    ⟨rfl, rfl, rfl, congrArg some (mimpidValue_eq s.cfg), congrArg some (misaValue_eq s.cfg)⟩,
    ⟨rfl, s.csrRead_hpm_selector k, ?_, ?_, ?_⟩, State.csrRead_fp, fun h => ?_, fun h => ?_, fun h => ?_, fun h => ?_,
    fun h => ?_, fun a => State.csrRead_outside⟩
  · simp only [List.forall_mem_cons]
    exact ⟨⟨rfl, rfl⟩, ⟨rfl, rfl⟩, List.forall_mem_nil _⟩
  · simp only [List.forall_mem_cons]
    exact ⟨⟨rfl, rfl⟩, ⟨rfl, rfl⟩, List.forall_mem_nil _⟩
  · simp only [List.forall_mem_cons]
    exact ⟨⟨s.csrRead_hpm_low k (.inl rfl), s.csrRead_hpm_high k (.inl rfl)⟩,
      ⟨s.csrRead_hpm_low k (.inr rfl), s.csrRead_hpm_high k (.inr rfl)⟩,
      List.forall_mem_nil _⟩
  · have hu : ¬ s.fpUsable = true := mt State.fpUsable_iff.1 h
    simp only [List.forall_mem_cons]
    exact ⟨if_neg hu, if_neg hu, if_neg hu, List.forall_mem_nil _⟩
  · have hd : ¬ s.debugMode = true := Bool.not_eq_true _ ▸ h
    simp only [List.forall_mem_cons]
    exact ⟨if_neg hd, if_neg hd, if_neg hd, if_neg hd, List.forall_mem_nil _⟩
  · exact ⟨if_pos h, if_pos h, if_pos h, if_pos h⟩
  · obtain ⟨⟨h1, h2, h3, h4, h5, h6⟩, hrest⟩ := State.csrRead_pulp h
    exact ⟨h1, h2, h3, h4, h5, h6, hrest⟩
  · have hp : ¬ s.cfg.corevPulp = true := Bool.not_eq_true _ ▸ h
    have hz : ¬ (s.cfg.corevPulp && (!s.cfg.fpu || s.cfg.zfinx)) = true := by rw [h]; exact Bool.false_ne_true
    simp only [List.forall_mem_cons]
    exact ⟨if_neg hp, if_neg hp, if_neg hp, if_neg hp, if_neg hp, if_neg hp, if_neg hp, if_neg hp, if_neg hz,
      List.forall_mem_nil _⟩

/-! ### Reset -/

/-- The reset value of mtvec (10_state R52). -/
theorem mtvec_reset (a : Word) : a.extractLsb' 8 24 ++ 0x01#8 = (a &&& 0xFFFFFF00) ||| 1 := by
  have hm : ∀ i < 32, (0xFFFFFF00 : Word).getLsbD i = decide (8 ≤ i) := by decide
  have h1 : ∀ i < 32, (1 : Word).getLsbD i = (decide (i < 8) && (0x01#8).getLsbD i) := by decide
  apply BitVec.eq_of_getLsbD_eq
  intro i hi
  rw [BitVec.getLsbD_append, BitVec.getLsbD_or, BitVec.getLsbD_and, hm i hi, h1 i hi, BitVec.getLsbD_extractLsb']
  by_cases h8 : i < 8
  · simp [h8, Nat.not_le.2 h8]
  · simp [h8, Nat.not_lt.1 h8]; omega

theorem bitsAre_mtvec_reset (a : Word) : bitsAre (a.extractLsb' 8 24 ++ 0x01#8) 0x000000FE 0 := by
  rw [mtvec_reset]
  exact bitsAre_or (bitsAre_and_mask a rfl) rfl

/-- Settles O5: clause by clause, from the reset values and the musts of a legal configuration. -/
theorem resetHasInvariant : Obligations.ResetHasInvariant := by
  intro c hc
  obtain ⟨hboot, -, -⟩ := Config.legal_addresses hc
  refine ⟨rfl, rfl, rfl, hboot, ?_, ⟨bitsAre_zero _, bitsAre_zero _⟩,
    ⟨bitsAre_zero _, bitsAre_zero _⟩, fun _ => ⟨rfl, rfl⟩, nofun, nofun, nofun⟩
  exact {
    mstatus := bitsAre_mpp c
    mie := bitsAre_zero _
    mtvec := bitsAre_mtvec_reset c.mtvecAddr
    mepc := bitsAre_zero _
    mcause := ⟨(rfl : mcauseLegal 0 = true), bitsAre_zero _⟩
    tdata1 := (rfl : bitsAre 0x28001040 0xFFFFFFFB 0x28001040)
    dcsr := (rfl : bitsAre 0x40000003 0xFFFF763B 0x40000003)
    dpc := bitsAre_zero _
    mcountinhibit := BitVec.and_not_self _
    hpm := fun i _ => ⟨Vector.getElem_replicate .., Vector.getElem_replicate ..⟩ }

/-- Settles O6: the values of the reset state, through the rules for CSR reads. -/
theorem resetRegisterValues : Obligations.ResetRegisterValues := by
  intro c k s n
  have hc : s.hpmCounter[k] = 0 := Vector.getElem_replicate ..
  have he : s.hpmEvent[k] = 0 := Vector.getElem_replicate ..
  have hz : some ((0#64).extractLsb' 32 32) = some (0 : Word) := rfl
  refine ⟨⟨rfl, rfl, rfl, rfl, rfl, rfl⟩,
    ⟨congrArg some (rfl : mstatusRead 0x1800 = 0x1800), congrArg some (mtvec_reset c.mtvecAddr), rfl, rfl,
      congrArg some (misaValue_eq c)⟩,
    ?_, ⟨rfl, rfl, rfl, rfl⟩,
    ⟨rfl, rfl, fun hf => ?_⟩, fun i hi => getLsbD_countInhibitMask c hi, ?_, ?_,
    ⟨rfl, rfl, rfl, congrArg some (mimpidValue_eq c)⟩,
    fun (hp : s.cfg.corevPulp = true) => ⟨?_, (State.csrRead_pulp hp).2⟩⟩
  · simp only [List.forall_mem_cons]
    exact ⟨rfl, rfl, rfl, rfl, rfl, congrArg some BitVec.zero_and, rfl, rfl, rfl, rfl, rfl, List.forall_mem_nil _⟩
  · obtain ⟨h3, h1, h2⟩ := State.csrRead_fp hf
    simp only [List.forall_mem_cons]
    exact ⟨h1.trans rfl, h2.trans rfl, h3.trans (congrArg some (rfl : (0#3 ++ 0#5).setWidth 32 = (0 : Word))),
      List.forall_mem_nil _⟩
  · rw [State.csrRead_hpm_selector, he]; rfl
  · simp only [List.forall_mem_cons]
    refine ⟨⟨rfl, rfl, ?_⟩, ⟨hz, hz, ?_⟩, ⟨rfl, rfl, ?_⟩, ⟨hz, hz, ?_⟩, List.forall_mem_nil _⟩
    · exact (s.csrRead_hpm_low k (.inl rfl)).trans (by rw [hc]; rfl)
    · exact (s.csrRead_hpm_high k (.inl rfl)).trans (by rw [hc]; rfl)
    · exact (s.csrRead_hpm_low k (.inr rfl)).trans (by rw [hc]; rfl)
    · exact (s.csrRead_hpm_high k (.inr rfl)).trans (by rw [hc]; rfl)
  · obtain ⟨⟨h1, h2, h3, h4, h5, h6⟩, -⟩ := State.csrRead_pulp hp
    simp only [List.forall_mem_cons]
    exact ⟨h1, h2, h3, h4, h5, h6, List.forall_mem_nil _⟩

end Sys2Proof.Machine
end

section
/-! SUPPORT. What CSR writes store, and the CSR instructions. -/

namespace Sys2Proof.Machine

/-! ### Writes -/

/-- The writable bits of mstatus (10_state R48). -/
theorem getLsbD_mstatusMask (c : Config) {n : Nat} (hn : n < 32) : (mstatusMask c).getLsbD n =
    decide (n = 3 ∨ n = 7 ∨ ((n = 13 ∨ n = 14) ∧ c.fpu = true ∧ c.zfinx = false)) := by
  have hfs : ∀ n < 32, (0x6088 : Word).getLsbD n = decide (n = 3 ∨ n = 7 ∨ n = 13 ∨ n = 14) := by decide
  have hno : ∀ n < 32, (0x88 : Word).getLsbD n = decide (n = 3 ∨ n = 7) := by decide
  unfold mstatusMask
  by_cases h : hasFs c = true
  · rw [if_pos h, hfs n hn]
    exact decide_eq_decide.2 (by simp [hasFs_iff.1 h])
  · rw [if_neg h, hno n hn]
    exact decide_eq_decide.2 (by simp [mt hasFs_iff.2 h])

/-- Settles O26: each write by evaluation, then the bits of its mask. -/
theorem csrWritesStoreWritableBits : Obligations.CsrWritesStoreWritableBits := by
  intro s v
  refine ⟨fun h => ⟨_, rfl, fun n hn => ?_⟩, rfl, rfl, rfl, rfl, ⟨_, rfl, fun n hn => ?_⟩, rfl, rfl, rfl,
    ⟨_, rfl, fun n hn => ?_⟩, fun k => s.csrWrite_hpm_selector k v, ?_⟩
  · rw [← show s.mstatus &&& ~~~ mstatusMask s.cfg = 0x1800 from h.mstatus, getLsbD_masked _ _ _ hn,
      getLsbD_mstatusMask s.cfg hn]
    simp only [decide_eq_true_eq]
  · have hd : ∀ n < 32, (0x8804 : Word).getLsbD n = decide (n = 2 ∨ n = 11 ∨ n = 15) := by decide
    refine (getLsbD_masked s.dcsr v 0x8804 hn).trans ?_
    simp only [hd n hn, decide_eq_true_eq]
  · rw [BitVec.getLsbD_and, getLsbD_countInhibitMask s.cfg hn]
  · simp only [List.forall_mem_cons]
    exact ⟨rfl, rfl, rfl, rfl, rfl, rfl, rfl, List.forall_mem_nil _⟩

/-! ### The CSR instructions -/

/-- mstatus on trap entry (60_exceptions R826), bit by bit. -/
theorem statusSaved_statusOnTrap (m : Word) : StatusSaved m (statusOnTrap m) := by
  intro n hn
  have hk : ∀ n < 32, ((0xFFFFFF77 : Nat) : Word).getLsbD n = !decide (n = 3 ∨ n = 7) := by decide
  have h8 : ∀ n < 32, (0x8 : Word).getLsbD n = decide (n = 3) := by decide
  simp only [statusOnTrap, BitVec.getLsbD_or, BitVec.getLsbD_and, BitVec.getLsbD_shiftLeft, hk n hn, h8 (n - 4) (by omega)]
  by_cases h3 : n = 3
  · simp [h3]
  by_cases h7 : n = 7
  · simp [h7]
  · simp [h3, h7]; omega

/-- The exception of the model is that of the claims. -/
theorem raises_of_raise {s : State} {i : Instr} {code : Word} (h : exec i s = .next (s.raise code)) : Raises s i code := by
  unfold State.raise at h
  refine ⟨fun hd => ⟨s.enterTrap s.pc code (trapBase s.mtvec), ?_, statusSaved_statusOnTrap s.mstatus, rfl⟩,
    fun hd => ?_⟩
  · rw [h, hd]; rfl
  · rw [h, hd]; rfl

section
variable {s : State} {rd rs1 : Reg} {u : BitVec 5} {a : BitVec 12} {w : Bool} {new : Word → Word} {old : Word}

/-- Not implemented, or not accessible: illegal (10_state R38 steps 1, 2, 5). -/
theorem csrAccess_of_none (h : s.csrRead a = none) : csrAccess rd a w new s = illegal s := by
  unfold csrAccess; rw [h]

/-- A write to a read-only CSR: illegal (10_state R38 step 4). -/
theorem csrAccess_of_readOnly (h : csrReadOnly a = true) : csrAccess rd a true new s = illegal s := by
  unfold csrAccess
  split
  · rfl
  · rw [if_pos rfl, if_pos h]

theorem csrAccess_of_write {t : State} (hr : s.csrRead a = some old) (ho : csrReadOnly a = false)
    (hw : s.csrWrite a (new old) = .next t) :
    csrAccess rd a true new s = .next (s.retire { written := countersWritten a } (t.setReg rd old)) := by
  unfold csrAccess
  rw [hr]
  dsimp only
  rw [if_pos rfl, ho, if_neg Bool.false_ne_true, hw]

theorem csrAccess_of_refused {r : Refusal} (hr : s.csrRead a = some old) (ho : csrReadOnly a = false)
    (hw : s.csrWrite a (new old) = .refused r) : csrAccess rd a true new s = .refused r := by
  unfold csrAccess
  rw [hr]
  dsimp only
  rw [if_pos rfl, ho, if_neg Bool.false_ne_true, hw]

/-- A CSR instruction whose write `e` is of no counter completes over `e`. -/
theorem completesWith_csrWrite {e : State} {i : Instr} (hx : exec i s = csrAccess rd a true new s)
    (hr : s.csrRead a = some old) (ho : csrReadOnly a = false) (hn : countersWritten a = 0)
    (hw : s.csrWrite a (new old) = .next e) : CompletesWith e s i rd old 4 none 0 := by
  obtain ⟨-, -, hex, hef, hem⟩ := State.csrWrite_keeps hw
  have he : Retired.events { written := countersWritten a } = 0 := by simp [Retired.events]
  refine ⟨_, hx.trans (csrAccess_of_write hr ho hw), fun q => ?_, ?_, fun b => ?_,
    he ▸ (State.retire_completes s _ { written := countersWritten a } hn).of_frame ?_⟩
  · rw [State.retire_reg, State.reg_setReg, State.reg_congr hex]
  · rw [State.retire_f, State.setReg_f, hef]
  · rw [State.retire_mem, State.setReg_mem, hem]
  · rw [State.setReg_frame]

/-! The six forms (42 R300 to R305, R310) -/

theorem exec_csrrw : exec (.csrrw rd a rs1) s = csrAccess rd a true (fun _ => s.reg rs1) s := rfl

theorem exec_csrrs : exec (.csrrs rd a rs1) s = csrAccess rd a (rs1 != 0) (fun old => old ||| s.reg rs1) s := rfl

theorem exec_csrrc : exec (.csrrc rd a rs1) s = csrAccess rd a (rs1 != 0) (fun old => old &&& ~~~ s.reg rs1) s := rfl

theorem exec_csrrwi : exec (.csrrwi rd a u) s = csrAccess rd a true (fun _ => u.setWidth 32) s := rfl

theorem exec_csrrsi : exec (.csrrsi rd a u) s = csrAccess rd a (u != 0) (fun old => old ||| u.setWidth 32) s := rfl

theorem exec_csrrci : exec (.csrrci rd a u) s = csrAccess rd a (u != 0) (fun old => old &&& ~~~ (u.setWidth 32)) s := rfl

/-- The forms that write, with the value that each writes. -/
theorem exec_csrForm {i : Instr} {v : Word}
    (h : (i, v) ∈ [(.csrrw rd a rs1, s.reg rs1), (.csrrwi rd a u, u.setWidth 32)] ∨
      (rs1 ≠ 0 ∧ (i, v) ∈ [(.csrrs rd a rs1, old ||| s.reg rs1), (.csrrc rd a rs1, old &&& ~~~ s.reg rs1)]) ∨
      (u ≠ 0 ∧ (i, v) ∈ [(.csrrsi rd a u, old ||| u.setWidth 32), (.csrrci rd a u, old &&& ~~~ (u.setWidth 32))])) :
    ∃ new : Word → Word, exec i s = csrAccess rd a true new s ∧ new old = v := by
  have hnz : ∀ {b : BitVec 5} {new : Word → Word}, b ≠ 0 →
      csrAccess rd a (b != 0) new s = csrAccess rd a true new s := fun hb => by rw [bne_iff_ne.2 hb]
  simp only [List.mem_cons, List.not_mem_nil, or_false, Prod.mk.injEq] at h
  rcases h with (⟨rfl, rfl⟩ | ⟨rfl, rfl⟩) | ⟨hne, ⟨rfl, rfl⟩ | ⟨rfl, rfl⟩⟩ | ⟨hne, ⟨rfl, rfl⟩ | ⟨rfl, rfl⟩⟩
  · exact ⟨_, exec_csrrw, rfl⟩
  · exact ⟨_, exec_csrrwi, rfl⟩
  · exact ⟨_, exec_csrrs.trans (hnz hne), rfl⟩
  · exact ⟨_, exec_csrrc.trans (hnz hne), rfl⟩
  · exact ⟨_, exec_csrrsi.trans (hnz hne), rfl⟩
  · exact ⟨_, exec_csrrci.trans (hnz hne), rfl⟩

/-- `csrrw` to a CSR that is no counter. -/
theorem completesWith_csrrw {e : State} (hr : s.csrRead a = some old) (ho : csrReadOnly a = false)
    (hn : countersWritten a = 0) (hw : s.csrWrite a (s.reg rs1) = .next e) :
    CompletesWith e s (.csrrw rd a rs1) rd old 4 none 0 :=
  completesWith_csrWrite exec_csrrw hr ho hn hw

/-- Every form that writes writes some value. -/
theorem exec_csrWriting {i : Instr} (h : i ∈ [.csrrw rd a rs1, .csrrwi rd a u] ∨
    (rs1 ≠ 0 ∧ i ∈ [.csrrs rd a rs1, .csrrc rd a rs1]) ∨ (u ≠ 0 ∧ i ∈ [.csrrsi rd a u, .csrrci rd a u])) :
    ∃ new : Word → Word, exec i s = csrAccess rd a true new s := by
  suffices hv : ∃ v, (i, v) ∈ [(.csrrw rd a rs1, s.reg rs1), (.csrrwi rd a u, u.setWidth 32)] ∨
      (rs1 ≠ 0 ∧ (i, v) ∈ [(.csrrs rd a rs1, 0 ||| s.reg rs1), (.csrrc rd a rs1, 0 &&& ~~~ s.reg rs1)]) ∨
      (u ≠ 0 ∧ (i, v) ∈ [(.csrrsi rd a u, 0 ||| u.setWidth 32), (.csrrci rd a u, 0 &&& ~~~ (u.setWidth 32))]) by
    obtain ⟨v, hv⟩ := hv
    obtain ⟨new, hx, -⟩ := exec_csrForm hv
    exact ⟨new, hx⟩
  simpa [exists_or] using h

end

/-- Settles O28: a refused access is `illegal`, whatever the form. -/
theorem csrAccessChecked : Obligations.CsrAccessChecked := by
  intro s rd rs1 u a
  constructor
  · intro h
    have hi : ∀ {i : Instr} {w : Bool} {new : Word → Word}, exec i s = csrAccess rd a w new s → Raises s i 2 :=
      fun hx => raises_of_raise (hx.trans (csrAccess_of_none h))
    simp only [List.forall_mem_cons]
    exact ⟨hi exec_csrrw, hi exec_csrrs, hi exec_csrrc, hi exec_csrrwi, hi exec_csrrsi, hi exec_csrrci,
      List.forall_mem_nil _⟩
  · intro ha i hi
    have ho : csrReadOnly a = true := by simpa [csrReadOnly] using ha
    obtain ⟨new, hx⟩ := exec_csrWriting (s := s) hi
    exact raises_of_raise (hx.trans (csrAccess_of_readOnly ho))

/-- Settles O29: the three writes, then the rule for a CSR instruction that writes. -/
theorem floatCsrWrites : Obligations.FloatCsrWrites := by
  intro s rd rs1 h d v
  obtain ⟨hfcsr, hfflags, hfrm⟩ := State.csrRead_fp h
  have hd : ∀ {t : State}, t.cfg = s.cfg → t.mstatus = s.mstatus → t.markDirty = { t with mstatus := d } :=
    fun hc hm => by rw [State.markDirty_eq (hc ▸ h.1), hc, hm]
  have h1 : ∀ w, s.csrWrite 0x001 w = .next { s with fflags := w.extractLsb' 0 5, mstatus := d } :=
    fun w => congrArg Host.Outcome.next (hd (t := { s with fflags := w.extractLsb' 0 5 }) rfl rfl)
  have h2 : ∀ w, s.csrWrite 0x002 w = .next { s with frm := w.extractLsb' 0 3, mstatus := d } :=
    fun w => congrArg Host.Outcome.next (hd (t := { s with frm := w.extractLsb' 0 3 }) rfl rfl)
  have h3 : ∀ w, s.csrWrite 0x003 w =
      .next { s with fflags := w.extractLsb' 0 5, frm := w.extractLsb' 5 3, mstatus := d } :=
    fun w => congrArg Host.Outcome.next (hd (t := { s with fflags := w.extractLsb' 0 5, frm := w.extractLsb' 5 3 }) rfl rfl)
  exact ⟨fun w => ⟨h1 w, h2 w, h3 w⟩, completesWith_csrrw hfflags rfl rfl (h1 v),
    completesWith_csrrw hfrm rfl rfl (h2 v), completesWith_csrrw hfcsr rfl rfl (h3 v)⟩

/-- The legal causes of 10_state R55, as the claim lists them. -/
theorem mcauseLegal_iff {v : Word} : mcauseLegal v = true ↔
    if v.getLsbD 31 then v.extractLsb' 0 5 ∈ [3#5, 7#5, 11#5] ∨ v.getLsbD 4 = true
      else v.extractLsb' 0 5 ∈ [0#5, 2#5, 3#5, 11#5] := by
  have h4 : (v.extractLsb' 0 5).getLsbD 4 = v.getLsbD 4 := by simp
  unfold mcauseLegal
  dsimp only
  rw [h4]
  cases v.getLsbD 31 <;> simp [or_assoc]

/-- Settles O31: every form that writes does the same access; the model's legal causes are those of the claim. -/
theorem mcauseWrites : Obligations.McauseWrites := by
  intro s rd rs1 u i v hi legal
  obtain ⟨new, hx, rfl⟩ := exec_csrForm hi
  have hr : s.csrRead 0x342 = some s.mcause := rfl
  constructor
  · intro hl
    exact completesWith_csrWrite hx hr rfl rfl (if_pos (mcauseLegal_iff.2 hl))
  · intro hl
    exact hx.trans (csrAccess_of_refused hr rfl (if_neg (fun e => hl (mcauseLegal_iff.1 e))))

/-- Settles O32: the two writes in each mode, then the rule for a CSR instruction that writes. -/
theorem triggerRegistersAreDebugOnly : Obligations.TriggerRegistersAreDebugOnly := by
  intro s rd rs1 v
  have hoff : s.debugMode = false → ∀ w, s.csrWrite 0x7A1 w = .next s ∧ s.csrWrite 0x7A2 w = .next s := fun h w =>
    have hn : ¬ s.debugMode = true := Bool.not_eq_true _ ▸ h
    ⟨congrArg _ (if_neg hn), congrArg _ (if_neg hn)⟩
  have hon : s.debugMode = true → ∀ w, s.csrWrite 0x7A1 w = .next { s with tdata1 := 0x28001040 ||| (w &&& 4) } ∧
      s.csrWrite 0x7A2 w = .next { s with tdata2 := w } := fun h w => ⟨congrArg _ (if_pos h), congrArg _ (if_pos h)⟩
  have h1 : s.csrRead 0x7A1 = some s.tdata1 := rfl
  have h2 : s.csrRead 0x7A2 = some s.tdata2 := rfl
  refine ⟨fun w => ⟨fun h => hoff h w, fun h => hon h w⟩, fun h => ?_, fun h => ?_⟩
  · obtain ⟨hw1, hw2⟩ := hoff h v
    exact ⟨completesWith_csrrw h1 rfl rfl hw1, completesWith_csrrw h2 rfl rfl hw2⟩
  · obtain ⟨hw1, hw2⟩ := hon h v
    exact ⟨completesWith_csrrw h1 rfl rfl hw1, completesWith_csrrw h2 rfl rfl hw2⟩

end Sys2Proof.Machine
end

section
/-! SUPPORT. Writes to the counters, and the steps before and after fetch enable. -/

namespace Sys2Proof.Machine

/-! ### Writes to the counters -/

/-- A write to a counter marks that counter as written (92 D17). -/
theorem getLsbD_countersWritten {a : BitVec 12} (h : a.extractLsb' 5 7 = 0x58#7 ∨ a.extractLsb' 5 7 = 0x5C#7) :
    (countersWritten a).getLsbD (a.extractLsb' 0 5).toNat = true := by
  have hc : countersWritten a = ((1 <<< (a.extractLsb' 0 5).toNat : Nat) : Word) := by
    unfold countersWritten
    rcases h with h | h <;> rw [h] <;> rfl
  rw [hc, BitVec.natCast_eq_ofNat, BitVec.getLsbD_ofNat, Nat.one_shiftLeft, Nat.testBit_two_pow_self,
    decide_eq_true (BitVec.isLt _)]
  rfl

theorem retireCounter_written {s : State} {r : Retired} {i : Nat} {c : BitVec 64} (h : r.written.getLsbD (i + 3) = true) :
    retireCounter s r i c = c := by
  unfold retireCounter
  simp only [h, Bool.not_true, Bool.and_false, Bool.false_and, Bool.false_eq_true, if_false]

theorem retireInstret_written {s : State} {r : Retired} {c : BitVec 64} (h : r.written.getLsbD 2 = true) :
    retireInstret s r c = c := by
  unfold retireInstret
  simp only [h, Bool.or_true, if_true]

theorem csrrw_writes {s t : State} {rd rs1 : Reg} {a : BitVec 12} {old : Word} (hr : s.csrRead a = some old)
    (ho : csrReadOnly a = false) (hw : s.csrWrite a (s.reg rs1) = .next t) :
    exec (.csrrw rd a rs1) s = .next (s.retire { written := countersWritten a } (t.setReg rd old)) :=
  exec_csrrw.trans (csrAccess_of_write hr ho hw)

/-- The banks through which event counters are written. -/
theorem hpm_writtenBank {b : BitVec 12} (hb : b = 0xB03 ∨ b = 0xB83) (k : Fin 29) :
    (b + BitVec.ofNat 12 k).extractLsb' 5 7 = 0x58#7 ∨ (b + BitVec.ofNat 12 k).extractLsb' 5 7 = 0x5C#7 := by
  rcases hb with rfl | rfl
  · exact .inl (bank_address rfl k).1
  · exact .inr (bank_address rfl k).1

/-- An event counter after the instruction that writes it: as written (92 D17). -/
theorem hpmCounter_after_write {s t : State} {rd : Reg} {old : Word} {b : BitVec 12} (k : Fin 29)
    (hb : b = 0xB03 ∨ b = 0xB83) :
    (s.retire { written := countersWritten (b + BitVec.ofNat 12 k) } (t.setReg rd old)).hpmCounter[k] = t.hpmCounter[k] := by
  obtain ⟨-, hnum⟩ := bank_address (b := b) (by rcases hb with rfl | rfl <;> rfl) k
  have hw := getLsbD_countersWritten (hpm_writtenBank hb k)
  rw [hnum, (hpm_number k).1] at hw
  rw [State.retire_hpmCounter, State.setReg_hpmCounter]
  exact retireCounter_written hw

/-- The banks that are written hold no read-only CSR. -/
theorem csrReadOnly_bank {a : BitVec 12} (h : a.extractLsb' 5 7 = 0x58#7 ∨ a.extractLsb' 5 7 = 0x5C#7) :
    csrReadOnly a = false := by
  have hb : a.toNat / 32 = 88 ∨ a.toNat / 32 = 92 := by
    rw [← toNat_bank]
    exact h.imp (congrArg BitVec.toNat) (congrArg BitVec.toNat)
  have htop : a.extractLsb' 10 2 ≠ 3#2 := fun e => by
    have he : a.toNat >>> 10 % 2 ^ 2 = 3 := (BitVec.extractLsb'_toNat ..).symm.trans (congrArg BitVec.toNat e)
    rw [Nat.shiftRight_eq_div_pow] at he
    omega
  have hne : a ≠ 0x7A4#12 := fun e => by
    have he : a.toNat = 0x7A4 := congrArg BitVec.toNat e
    omega
  unfold csrReadOnly
  rw [beq_false_of_ne htop, beq_false_of_ne hne]
  rfl

/-- Settles O30: the writes by bank; the counter that is written does not count its instruction. -/
theorem counterWrites : Obligations.CounterWrites := by
  intro s rd rs1 k low high n impl v
  have hlow := hpm_writtenBank (b := 0xB03) (.inl rfl) k
  have hhigh := hpm_writtenBank (b := 0xB83) (.inr rfl) k
  have h0 : s.csrWrite 0xB00 v = .next { s with mcycle := low s.mcycle v } := rfl
  have h1 : s.csrWrite 0xB80 v = .next { s with mcycle := high s.mcycle v } := rfl
  have h2 : s.csrWrite 0xB02 v = .next { s with minstret := low s.minstret v } := rfl
  have h3 : s.csrWrite 0xB82 v = .next { s with minstret := high s.minstret v } := rfl
  refine ⟨fun w => ⟨rfl, rfl, rfl, rfl, s.csrWrite_hpm_low k w, s.csrWrite_hpm_high k w⟩, _, _, _, _, _, _,
    csrrw_writes (rfl : _ = some (s.mcycle.extractLsb' 0 32)) rfl h0, ?_,
    csrrw_writes (rfl : _ = some (s.mcycle.extractLsb' 32 32)) rfl h1, ?_,
    csrrw_writes (rfl : _ = some (s.minstret.extractLsb' 0 32)) rfl h2, ?_,
    csrrw_writes (rfl : _ = some (s.minstret.extractLsb' 32 32)) rfl h3, ?_,
    csrrw_writes (s.csrRead_hpm_low k (.inl rfl)) (csrReadOnly_bank hlow) (s.csrWrite_hpm_low k v),
    csrrw_writes (s.csrRead_hpm_high k (.inl rfl)) (csrReadOnly_bank hhigh) (s.csrWrite_hpm_high k v),
    fun hk => ⟨?_, ?_⟩, fun hk => ⟨?_, ?_⟩⟩
  · rw [State.retire_mcycle, State.setReg_mcycle]
  · rw [State.retire_mcycle, State.setReg_mcycle]
  · rw [State.retire_minstret, retireInstret_written rfl, State.setReg_minstret]
  · rw [State.retire_minstret, retireInstret_written rfl, State.setReg_minstret]
  · rw [hpmCounter_after_write k (.inl rfl), if_pos hk]; simp
  · rw [hpmCounter_after_write k (.inr rfl), if_pos hk]; simp
  · rw [hpmCounter_after_write k (.inl rfl), if_neg (Nat.not_lt.2 hk)]
  · rw [hpmCounter_after_write k (.inr rfl), if_neg (Nat.not_lt.2 hk)]

/-! ### Fetch enable -/

/-- Entering Debug Mode in the model is that of the claims (60_exceptions R850). -/
theorem debugEntered_enterDebug (s : State) (c : BitVec 3) : DebugEntered s (s.enterDebug c) c := by
  have hd : (s.enterDebug c).dcsr = dcsrWithCause s.dcsr c := rfl
  refine ⟨?_, fun n hn hc => ?_, rfl⟩
  · rw [hd]
    apply BitVec.eq_of_getLsbD_eq
    intro i hi
    have hm : ∀ i < 3, ((0xFFFFFE3F : Nat) : Word).getLsbD (6 + i) = false := by decide
    simp only [debugCause, dcsrWithCause, BitVec.getLsbD_extractLsb', BitVec.getLsbD_or, BitVec.getLsbD_and,
      BitVec.getLsbD_shiftLeft, hm i hi]
    simp [hi, show 6 + i < 32 by omega, show i < 32 by omega]
  · have hm : ∀ n < 32, ¬ (6 ≤ n ∧ n ≤ 8) → ((0xFFFFFE3F : Nat) : Word).getLsbD n = true := by decide
    rw [hd]
    simp only [dcsrWithCause, BitVec.getLsbD_or, BitVec.getLsbD_and, BitVec.getLsbD_shiftLeft, hm n hn hc]
    by_cases h6 : n < 6
    · simp [h6]
    · have hg : (c.setWidth 32).getLsbD (n - 6) = false := by
        rw [BitVec.getLsbD_setWidth, BitVec.getLsbD_of_ge c _ (by omega), Bool.and_false]
      simp [hg]

/-- A debug request outside Debug Mode goes before every other event (60_exceptions R819, 92 D16). -/
theorem State.boundary_of_request {s : State} (hr : s.debugReq = true ∨ s.debugPending = true) (hd : s.debugMode = false) :
    s.boundary = some (s.enterDebug 3) := by
  have hq : s.debugRequested = true := by simpa [State.debugRequested] using hr
  unfold State.boundary
  rw [hq, hd]
  rfl

/-- No event and no instruction clears the fetch-enable latch. -/
theorem State.awakeStep_fetchEnabled {s t : State} (h : s.awakeStep = .next t) : t.fetchEnabled = s.fetchEnabled := by
  rcases State.awakeStep_cases h with hb | ⟨u, hu, rfl⟩
  · rcases State.boundary_cases hb with ⟨c, rfl⟩ | ⟨id, -, rfl⟩ <;> simp
  · simpa using hu.fetchEnabled

theorem step_keeps_fetchEnabled {s t : State} (hf : s.fetchEnabled = true) (h : step s = .next t) :
    t.fetchEnabled = true := by
  obtain ⟨-, e, he, ht⟩ := step_cases h
  have hef : e.fetchEnabled = true := by
    rcases he with rfl | rfl
    · exact hf
    · rfl
  rcases ht with rfl | ht
  · exact hef
  · exact (State.awakeStep_fetchEnabled ht).trans hef

/-- Before fetch enable a step is that of the latch. -/
theorem step_of_not_enabled {s : State} (hl : s.cfg.legal = true) (hf : s.fetchEnabled = false) : step s = s.startStep := by
  unfold step
  rw [hl, hf]
  rfl

/-- With the latch set a step is that of the running hart. -/
theorem step_of_enabled {s : State} (hl : s.cfg.legal = true) (hf : s.fetchEnabled = true) : step s = s.runningStep := by
  unfold step
  rw [hl, hf]
  rfl

/-- Settles O17: no way that a step goes clears the latch, and a pending request is the first event of the running hart. -/
theorem waitsForFetchEnable : Obligations.WaitsForFetchEnable := by
  intro s e
  refine ⟨fun hl => ⟨fun hf hp => ?_, fun hf hp hq hn => ?_, fun hf t => step_keeps_fetchEnabled hf⟩,
    fun hf hp hr hd hruns ha => ?_, fun hq => ?_⟩
  · rw [step_of_not_enabled hl hf, State.startStep_of_low hp]
  · have hr : s.debugRequested = false := by simp [State.debugRequested, hq, hn]
    rw [step_of_not_enabled hl hf, State.startStep_of_high hp hr]
  · have hq : s.debugRequested = true := by simpa [State.debugRequested] using hr
    have hstep : step s = .next (e.beginStep.enterDebug 3) := by
      calc step s = s.startStep := step_of_not_enabled hruns.1 hf
        _ = e.runningStep := State.startStep_of_request hp hq hd
        _ = step e := (step_of_enabled hruns.1 rfl).symm
        _ = e.awakeStep := step_of_runs hruns
        _ = .next (e.beginStep.enterDebug 3) := State.awakeStep_of_event ha (State.boundary_of_request hr hd)
    refine ⟨_, hstep, debugEntered_enterDebug _ 3, ?_, rfl⟩
    unfold State.debugStatus
    rw [hf]
    rfl
  · simp [State.assertReset, State.driveDebugReq, hq]

end Sys2Proof.Machine
end

section
/-! SUPPORT. What a fetch can give: the bus's word or one kept from before a store (20_memory R151). -/

namespace Sys2Proof.Machine

/-- The old words of an address are those kept under it. -/
@[simp] theorem State.mem_oldWords {s : State} {a w : Word} : w ∈ s.oldWords a ↔ (a, w) ∈ s.stale := by
  simp [State.oldWords]

/-- The free choice of a fetch falls either past the old words, on the bus, or on one of them. -/
theorem State.fetchWord_cases (s : State) (a : Word) :
    s.fetchWord a = s.codeWord a ∨ (a, s.fetchWord a) ∈ s.stale := by
  unfold State.fetchWord
  rw [List.getD_eq_getElem?_getD]
  cases hw : (s.oldWords a)[Config.freeStale s.draws a.toNat]? with
  | none => exact .inl rfl
  | some w => exact .inr (State.mem_oldWords.1 (List.mem_of_getElem? hw))

/-- Where the platform has memory at all four bytes, the bus gives memory's word (20_memory R132). -/
theorem State.codeWord_of_hasCode {s : State} {a : Word}
    (h : ∀ k < 4, s.cfg.hasCode (a + BitVec.ofNat 32 k) = true) : s.codeWord a = s.codeMem.word a := by
  have h0 : s.cfg.hasCode a = true := by simpa using h 0 (by decide)
  have h1 : s.cfg.hasCode (a + 1) = true := h 1 (by decide)
  have h2 : s.cfg.hasCode (a + 2) = true := h 2 (by decide)
  have h3 : s.cfg.hasCode (a + 3) = true := h 3 (by decide)
  simp only [State.codeWord, Memory.word, State.codeByte_of_hasCode, h0, h1, h2, h3]

/-- Settles O19: a fetch is an old word or the bus's, so with nothing older kept it is the bus's. -/
theorem fetchGivesOldOrNewWord : Obligations.FetchGivesOldOrNewWord := fun s a =>
  ⟨s.fetchWord_cases a, fun hnone => (s.fetchWord_cases a).resolve_right (hnone _), State.codeWord_of_hasCode⟩

end Sys2Proof.Machine
end

section
/-! SUPPORT. From the words of an instruction to its bytes: bits 1:0 of the first parcel give the length (30_encoding R160), and the
bytes of a word that the decoder accepts are read as that word (20_memory R134). -/

namespace Sys2Proof.Laws.RoundTrip

/-- The table of the per-instruction laws, in the order of the constructors. -/
theorem decodeCode_encode (i : Instr) : Statement i :=
  Instr.casesOn (motive := Statement) i
    lui auipc jal jalr beq bne blt bge bltu bgeu lb lh lw lbu lhu sb sh sw addi slti sltiu xori ori andi slli srli
    srai add sub sll slt sltu xor srl sra or and ecall ebreak mul mulh mulhsu mulhu div divu rem remu cAddi4spn cLw
    cSw cFlw cFsw cNop cAddi cJal cLi cAddi16sp cLui cSrli cSrai cAndi cSub cXor cOr cAnd cJ cBeqz cBnez cSlli cLwsp
    cFlwsp cJr cMv cEbreak cJalr cAdd cSwsp cFswsp csrrw csrrs csrrc csrrwi csrrsi csrrci fence fenceI mret dret wfi
    flw fsw fmaddS fmsubS fnmsubS fnmaddS faddS fsubS fmulS fdivS fsqrtS fsgnjS fsgnjnS fsgnjxS fminS fmaxS fcvtWS
    fcvtWuS fmvXW feqS fltS fleS fclassS fcvtSW fcvtSWu fmvWX cvLbPostImm cvLbuPostImm cvLhPostImm cvLhuPostImm
    cvLwPostImm cvLbPostReg cvLbuPostReg cvLhPostReg cvLhuPostReg cvLwPostReg cvLbIdx cvLbuIdx cvLhIdx cvLhuIdx
    cvLwIdx cvSbPostImm cvShPostImm cvSwPostImm cvSbPostReg cvShPostReg cvSwPostReg cvSbIdx cvShIdx cvSwIdx cvElw
    cvStarti cvStart cvEndi cvEnd cvCounti cvCount cvSetupi cvSetup cvExtract cvExtractu cvInsert cvBclr cvBset
    cvBitrev cvExtractr cvExtractur cvInsertr cvBclrr cvBsetr cvRor cvFf1 cvFl1 cvClb cvCnt cvAbs cvSle cvSleu cvMin
    cvMinu cvMax cvMaxu cvExths cvExthz cvExtbs cvExtbz cvClip cvClipu cvClipr cvClipur cvAddN cvAdduN cvAddRN
    cvAdduRN cvSubN cvSubuN cvSubRN cvSubuRN cvAddNr cvAdduNr cvAddRNr cvAdduRNr cvSubNr cvSubuNr cvSubRNr cvSubuRNr
    cvBeqimm cvBneimm cvMuluN cvMulhhuN cvMulsN cvMulhhsN cvMuluRN cvMulhhuRN cvMulsRN cvMulhhsRN cvMacuN cvMachhuN
    cvMacsN cvMachhsN cvMacuRN cvMachhuRN cvMacsRN cvMachhsRN cvMac cvMsu cvAddH cvAddScH cvAddSciH cvAddB cvAddScB
    cvAddSciB cvSubH cvSubScH cvSubSciH cvSubB cvSubScB cvSubSciB cvAvgH cvAvgScH cvAvgSciH cvAvgB cvAvgScB cvAvgSciB
    cvAvguH cvAvguScH cvAvguSciH cvAvguB cvAvguScB cvAvguSciB cvMinH cvMinScH cvMinSciH cvMinB cvMinScB cvMinSciB
    cvMinuH cvMinuScH cvMinuSciH cvMinuB cvMinuScB cvMinuSciB cvMaxH cvMaxScH cvMaxSciH cvMaxB cvMaxScB cvMaxSciB
    cvMaxuH cvMaxuScH cvMaxuSciH cvMaxuB cvMaxuScB cvMaxuSciB cvSrlH cvSrlScH cvSrlSciH cvSrlB cvSrlScB cvSrlSciB
    cvSraH cvSraScH cvSraSciH cvSraB cvSraScB cvSraSciB cvSllH cvSllScH cvSllSciH cvSllB cvSllScB cvSllSciB cvOrH
    cvOrScH cvOrSciH cvOrB cvOrScB cvOrSciB cvXorH cvXorScH cvXorSciH cvXorB cvXorScB cvXorSciB cvAndH cvAndScH
    cvAndSciH cvAndB cvAndScB cvAndSciB cvAbsH cvAbsB cvExtractH cvExtractB cvExtractuH cvExtractuB cvInsertH
    cvInsertB cvDotupH cvDotupScH cvDotupSciH cvDotupB cvDotupScB cvDotupSciB cvDotuspH cvDotuspScH cvDotuspSciH
    cvDotuspB cvDotuspScB cvDotuspSciB cvDotspH cvDotspScH cvDotspSciH cvDotspB cvDotspScB cvDotspSciB cvSdotupH
    cvSdotupScH cvSdotupSciH cvSdotupB cvSdotupScB cvSdotupSciB cvSdotuspH cvSdotuspScH cvSdotuspSciH cvSdotuspB
    cvSdotuspScB cvSdotuspSciB cvSdotspH cvSdotspScH cvSdotspSciH cvSdotspB cvSdotspScB cvSdotspSciB cvShuffleH
    cvShuffleSciH cvShuffleB cvShuffleI0SciB cvShuffleI1SciB cvShuffleI2SciB cvShuffleI3SciB cvShuffle2H cvShuffle2B
    cvPack cvPackH cvPackhiB cvPackloB cvCmpeqH cvCmpeqScH cvCmpeqSciH cvCmpeqB cvCmpeqScB cvCmpeqSciB cvCmpneH
    cvCmpneScH cvCmpneSciH cvCmpneB cvCmpneScB cvCmpneSciB cvCmpgtH cvCmpgtScH cvCmpgtSciH cvCmpgtB cvCmpgtScB
    cvCmpgtSciB cvCmpgeH cvCmpgeScH cvCmpgeSciH cvCmpgeB cvCmpgeScB cvCmpgeSciB cvCmpltH cvCmpltScH cvCmpltSciH
    cvCmpltB cvCmpltScB cvCmpltSciB cvCmpleH cvCmpleScH cvCmpleSciH cvCmpleB cvCmpleScB cvCmpleSciB cvCmpgtuH
    cvCmpgtuScH cvCmpgtuSciH cvCmpgtuB cvCmpgtuScB cvCmpgtuSciB cvCmpgeuH cvCmpgeuScH cvCmpgeuSciH cvCmpgeuB
    cvCmpgeuScB cvCmpgeuSciB cvCmpltuH cvCmpltuScH cvCmpltuSciH cvCmpltuB cvCmpltuScB cvCmpltuSciB cvCmpleuH
    cvCmpleuScH cvCmpleuSciH cvCmpleuB cvCmpleuScB cvCmpleuSciB cvCplxmulR cvCplxmulRDiv2 cvCplxmulRDiv4
    cvCplxmulRDiv8 cvCplxmulI cvCplxmulIDiv2 cvCplxmulIDiv4 cvCplxmulIDiv8 cvCplxconj cvSubrotmj cvSubrotmjDiv2
    cvSubrotmjDiv4 cvSubrotmjDiv8 cvAddDiv2 cvAddDiv4 cvAddDiv8 cvSubDiv2 cvSubDiv4 cvSubDiv8

end Sys2Proof.Laws.RoundTrip

namespace Sys2Proof

/-- Bits 1:0 of the lowest-addressed parcel are 11 for the words of 32 bits and for no others (R160). -/
def Code.HasLengthBits : Code → Prop
  | .half h => h.extractLsb' 0 2 ≠ 3
  | .full w => w.extractLsb' 0 2 = 3

/-- Every major opcode of R164 ends in 11. -/
theorem lengthBits_of_decodeFields {f7 : BitVec 7} {rs2 rs1 rd : Reg} {f3 : BitVec 3} {op : BitVec 7} {i : Instr}
    (h : decodeFields f7 rs2 rs1 f3 rd op = .ok i) : op.extractLsb' 0 2 = 3 := by
  unfold decodeFields at h
  split at h
  case h_23 => cases h
  all_goals rfl

/-- The decoder accepts no word whose length bits say another length. -/
theorem Code.hasLengthBits_of_decodeCode {c : Code} {i : Instr} (h : decodeCode c = .ok i) : c.HasLengthBits := by
  cases c with
  | half p =>
    intro hq
    have herr : decode16 p = .error .truncated := by rw [decode16, hq]; rfl
    cases h.symm.trans herr
  | full w =>
    have hop : (w.extractLsb' 0 7).extractLsb' 0 2 = 3 := lengthBits_of_decodeFields h
    rwa [BitVec.extractLsb'_extractLsb'_of_le (by decide)] at hop

/-- The bytes of a word of the right length are read as that word, whatever follows. -/
theorem decodeBytes_codeBytes {c : Code} (hc : c.HasLengthBits) (rest : List Byte) :
    decodeBytes (codeBytes c ++ rest) = (decodeCode c).map (·, rest) := by
  cases c with
  | half p =>
    have hq : (p.extractLsb' 0 8).extractLsb' 0 2 ≠ 3 := by rwa [BitVec.extractLsb'_extractLsb'_of_le (by decide)]
    have hp : p.extractLsb' 8 8 ++ p.extractLsb' 0 8 = p := BitVec.extractLsb'_append_extractLsb' (w := 8)
    calc decodeBytes (codeBytes (.half p) ++ rest)
      _ = (decode16 (p.extractLsb' 8 8 ++ p.extractLsb' 0 8)).map (·, rest) := if_neg hq
      _ = (decode16 p).map (·, rest) := by rw [hp]
  | full w =>
    have hq : (w.extractLsb' 0 8).extractLsb' 0 2 = 3 := by rwa [BitVec.extractLsb'_extractLsb'_of_le (by decide)]
    have hw : w.extractLsb' 24 8 ++ w.extractLsb' 16 8 ++ w.extractLsb' 8 8 ++ w.extractLsb' 0 8 = w := by
      simp only [BitVec.extractLsb'_append_extractLsb'_eq_extractLsb', BitVec.extractLsb'_eq_self]
    calc decodeBytes (codeBytes (.full w) ++ rest)
      _ = (decode32 (w.extractLsb' 24 8 ++ w.extractLsb' 16 8 ++ w.extractLsb' 8 8 ++ w.extractLsb' 0 8)).map (·, rest) :=
        if_pos hq
      _ = (decode32 w).map (·, rest) := by rw [hw]

/-- Settles O1: the round trip of the words gives their length bits, and with these that of the bytes. -/
theorem decodeInvertsEncode : Obligations.DecodeInvertsEncode := by
  intro i hi
  have hdec : decodeCode (encode i) = .ok i := Laws.RoundTrip.decodeCode_encode i hi
  have hlen : (encode i).HasLengthBits := Code.hasLengthBits_of_decodeCode hdec
  refine ⟨hdec, fun rest => ?_, fun p hp => ?_, fun w hw => ?_⟩
  · rw [decodeBytes_codeBytes hlen, hdec]
    rfl
  · rw [hp] at hlen ⊢
    exact ⟨hlen, rfl⟩
  · rw [hw] at hlen ⊢
    exact ⟨hlen, rfl⟩

end Sys2Proof
end

section
/-! SUPPORT. Encoding what the decoder reads from the fields of a word gives the fields back: one equation per format (30_encoding
R162, R163, R165). The counterpart of the equations of Laws/Fields.lean. -/

namespace Sys2Proof

/-- A word of 32 bits is put together from its fields. -/
theorem word32_fields (w : Word) :
    word32 (w.extractLsb' 25 7) (w.extractLsb' 20 5) (w.extractLsb' 15 5) (w.extractLsb' 12 3) (w.extractLsb' 7 5)
      (w.extractLsb' 0 7) = w := by
  simp only [word32, BitVec.extractLsb'_append_extractLsb'_eq_extractLsb', BitVec.extractLsb'_eq_self]

/-- A parcel is put together from its fields. -/
theorem word16_fields (h : BitVec 16) :
    word16 (h.extractLsb' 13 3) (h.extractLsb' 12 1) (h.extractLsb' 7 5) (h.extractLsb' 2 5) (h.extractLsb' 0 2) = h := by
  simp only [word16, BitVec.extractLsb'_append_extractLsb'_eq_extractLsb', BitVec.extractLsb'_eq_self]

/-- A field is its upper part and its lower part. -/
theorem exists_append {m n : Nat} (x : BitVec (m + n)) : ∃ (u : BitVec m) (v : BitVec n), x = u ++ v :=
  ⟨_, _, BitVec.extractLsb'_append_extractLsb'.symm⟩

/-- Where joined fields are zero, each of them is (R172). -/
theorem append_eq_zero {m n : Nat} {x : BitVec m} {y : BitVec n} (h : x ++ y = 0) : x = 0 ∧ y = 0 := by
  have hx : (x ++ y).extractLsb' n m = 0 := by simp [h]
  have hy : (x ++ y).extractLsb' 0 n = 0 := by simp [h]
  exact ⟨BitVec.extractLsb'_append_eq_left.symm.trans hx, BitVec.extractLsb'_append_eq_right.symm.trans hy⟩

section
variable (f7 : BitVec 7) (rs2 rs1 : Reg) (f3 : BitVec 3) (rd : Reg) (op : BitVec 7)

theorem encI_immI : encI f3 op rd rs1 (immI f7 rs2) = .full (word32 f7 rs2 rs1 f3 rd op) := by
  simp (disch := omega) only [encI, immI, extract_high, extract_low, Nat.reduceSub, BitVec.extractLsb'_eq_self]

theorem encLoop_immI (f4 : BitVec 4) (l : BitVec 1) :
    encLoop f4 l rs1 (immI f7 rs2) = .full (word32 f7 rs2 rs1 4 (f4 ++ l) 0x2b) :=
  encI_immI ..

theorem encS_immS : encS f3 op rs2 rs1 (immS f7 rd) = .full (word32 f7 rs2 rs1 f3 rd op) := by
  simp (disch := omega) only [encS, immS, extract_high, extract_low, Nat.reduceSub, BitVec.extractLsb'_eq_self]

theorem encB_immB : encB f3 op rs1 rs2 (immB f7 rd) = .full (word32 f7 rs2 rs1 f3 rd op) := by
  simp (disch := omega) only [encB, immB, extract_high, extract_low, Nat.reduceSub, BitVec.extractLsb'_eq_self,
    BitVec.extractLsb'_append_extractLsb'_eq_extractLsb']

theorem encU_immU : encU op rd (immU f7 rs2 rs1 f3) = .full (word32 f7 rs2 rs1 f3 rd op) := by
  simp (disch := omega) only [encU, immU, extract_high, extract_low, Nat.reduceSub, BitVec.extractLsb'_eq_self]

theorem encJ_immJ (u : BitVec 20) : encJ op rd (immJ u) = encU op rd u := by
  simp (disch := omega) only [encJ, immJ, extract_high, extract_low, Nat.reduceSub, BitVec.extractLsb'_eq_self,
    BitVec.extractLsb'_append_extractLsb'_eq_extractLsb']

theorem encImm6_imm6Of (f6 : BitVec 6) (b25 : BitVec 1) : encImm6 f6 f3 rd rs1 (imm6Of b25 rs2) = encSimd f6 b25 f3 rd rs1 rs2 := by
  simp (disch := omega) only [encImm6, imm6Of, extract_high, extract_low, Nat.reduceSub, BitVec.extractLsb'_eq_self]

end

section
variable (f3 : BitVec 3) (b12 : BitVec 1) (a b : Reg) (q : BitVec 2)

theorem encCl_immCl : encCl f3 (b.extractLsb' 0 3) (a.extractLsb' 0 3) (immCl b12 a b) = .half (word16 f3 b12 a b 0) := by
  simp (disch := omega) only [encCl, immCl, extract_high, extract_low, Nat.reduceSub, BitVec.extractLsb'_eq_self,
    BitVec.extractLsb'_append_extractLsb'_eq_extractLsb']
  rfl

theorem encode_cAddi4spn_immCiw :
    encode (.cAddi4spn (b.extractLsb' 0 3) (immCiw b12 a b)) = .half (word16 0 b12 a b 0) := by
  show Code.half (word16 0 ((immCiw b12 a b).extractLsb' 3 1)
    ((immCiw b12 a b).extractLsb' 2 1 ++ (immCiw b12 a b).extractLsb' 4 4)
    ((immCiw b12 a b).extractLsb' 0 1 ++ (immCiw b12 a b).extractLsb' 1 1 ++ b.extractLsb' 0 3) 0) = _
  simp (disch := omega) only [immCiw, extract_high, extract_low, Nat.reduceSub, BitVec.extractLsb'_eq_self,
    BitVec.extractLsb'_append_extractLsb'_eq_extractLsb']

theorem encCi_immCi : encCi f3 a (immCi b12 b) q = .half (word16 f3 b12 a b q) := by
  simp (disch := omega) only [encCi, immCi, extract_high, extract_low, Nat.reduceSub, BitVec.extractLsb'_eq_self]

theorem encCj_immCj : encCj f3 (immCj b12 a b) = .half (word16 f3 b12 a b 1) := by
  simp (disch := omega) only [encCj, immCj, extract_high, extract_low, Nat.reduceSub, BitVec.extractLsb'_eq_self,
    BitVec.extractLsb'_append_extractLsb'_eq_extractLsb']
  rfl

theorem encCb_immCb : encCb f3 (a.extractLsb' 0 3) (immCb b12 a b) = .half (word16 f3 b12 a b 1) := by
  simp (disch := omega) only [encCb, immCb, extract_high, extract_low, Nat.reduceSub, BitVec.extractLsb'_eq_self,
    BitVec.extractLsb'_append_extractLsb'_eq_extractLsb']
  rfl

theorem encode_cAddi16sp_immAddi16sp : encode (.cAddi16sp (immAddi16sp b12 b)) = .half (word16 3 b12 2 b 1) := by
  show Code.half (word16 3 ((immAddi16sp b12 b).extractLsb' 5 1) 2
    ((immAddi16sp b12 b).extractLsb' 0 1 ++ (immAddi16sp b12 b).extractLsb' 2 1 ++ (immAddi16sp b12 b).extractLsb' 3 2
      ++ (immAddi16sp b12 b).extractLsb' 1 1) 1) = _
  simp (disch := omega) only [immAddi16sp, extract_high, extract_low, Nat.reduceSub, BitVec.extractLsb'_eq_self,
    BitVec.extractLsb'_append_extractLsb'_eq_extractLsb']

theorem encode_cAndi_immCi (rd : Reg3) : encode (.cAndi rd (immCi b12 b)) = encCa b12 2 rd b := by
  show encCa ((immCi b12 b).extractLsb' 5 1) 2 rd ((immCi b12 b).extractLsb' 0 5) = _
  simp (disch := omega) only [immCi, extract_high, extract_low, Nat.reduceSub, BitVec.extractLsb'_eq_self]

theorem encLwsp_immLwsp : encLwsp f3 a (immLwsp b12 b) = .half (word16 f3 b12 a b 2) := by
  simp (disch := omega) only [encLwsp, immLwsp, extract_high, extract_low, Nat.reduceSub, BitVec.extractLsb'_eq_self,
    BitVec.extractLsb'_append_extractLsb'_eq_extractLsb']
  rfl

theorem encSwsp_immSwsp : encSwsp f3 b (immSwsp b12 a) = .half (word16 f3 b12 a b 2) := by
  simp (disch := omega) only [encSwsp, immSwsp, extract_high, extract_low, Nat.reduceSub, BitVec.extractLsb'_eq_self,
    BitVec.extractLsb'_append_extractLsb'_eq_extractLsb']
  rfl

end

end Sys2Proof
end

section
/-! SUPPORT. What the decoder accepts, function by function: an answer `i` on the fields of a word means that the word is the
encoding of `i`, and `i` is well formed. Each proof is the case split of the function it speaks of, in its order. -/

namespace Sys2Proof

/-- `i` is well formed and `c` is its encoding. -/
def Instr.HasCode (i : Instr) (c : Code) : Prop := encode i = c ∧ i.wellFormed = true

/-- The decoder may answer `d` to the words `c`: where `d` is an instruction, `c` is its code. -/
def Decoded.Reads (d : Decoded) (c : Code) : Prop := ∀ i, d = .ok i → i.HasCode c

section
variable {c : Code} {i : Instr}

theorem reads_ok (h : i.HasCode c) : Decoded.Reads (.ok i) c := by
  rintro _ ⟨⟩; exact h

theorem reads_error {e : DecodeError} : Decoded.Reads (.error e) c := by
  rintro _ ⟨⟩

theorem reads_ite {p : Prop} [Decidable p] {d d' : Decoded} (h : p → d.Reads c) (h' : ¬ p → d'.Reads c) :
    Decoded.Reads (if p then d else d') c := by
  by_cases hp : p
  · rw [if_pos hp]; exact h hp
  · rw [if_neg hp]; exact h' hp

theorem reads_zeroField {n : Nat} {z : BitVec n} (h : z = 0 → i.HasCode c) : (zeroField z i).Reads c :=
  reads_ite (fun hz => reads_ok (h hz)) fun _ => reads_error

theorem reads_unlessReserved {p : Bool} (h : p = true → i.HasCode c) : (unlessReserved p i).Reads c :=
  reads_ite (fun hp => reads_ok (h hp)) fun _ => reads_error

end

/-! ### The major opcodes of 32-bit words (R164) -/

section
variable {f7 : BitVec 7} {rs2 rs1 : Reg} {f3 : BitVec 3} {rd : Reg}

theorem reads_decodeLoad : (decodeLoad f7 rs2 rs1 f3 rd).Reads (.full (word32 f7 rs2 rs1 f3 rd 0x03)) := by
  unfold decodeLoad
  split
  case h_6 => exact reads_error
  all_goals exact reads_ok ⟨encI_immI .., rfl⟩

theorem reads_decodeLoadFp : (decodeLoadFp f7 rs2 rs1 f3 rd).Reads (.full (word32 f7 rs2 rs1 f3 rd 0x07)) := by
  unfold decodeLoadFp
  split
  · exact reads_ok ⟨encI_immI .., rfl⟩
  · exact reads_error

theorem reads_decodeCustom0 : (decodeCustom0 f7 rs2 rs1 f3 rd).Reads (.full (word32 f7 rs2 rs1 f3 rd 0x0b)) := by
  unfold decodeCustom0
  split
  case h_7 | h_8 => exact reads_ok ⟨encB_immB .., rfl⟩
  case h_9 => exact reads_error
  all_goals exact reads_ok ⟨encI_immI .., rfl⟩

theorem reads_decodeMiscMem : (decodeMiscMem f7 rs2 rs1 f3 rd).Reads (.full (word32 f7 rs2 rs1 f3 rd 0x0f)) := by
  unfold decodeMiscMem
  split
  case h_3 => exact reads_error
  all_goals exact reads_ok ⟨encI_immI .., rfl⟩

theorem reads_decodeOpImm : (decodeOpImm f7 rs2 rs1 f3 rd).Reads (.full (word32 f7 rs2 rs1 f3 rd 0x13)) := by
  unfold decodeOpImm
  split
  case h_2 =>
    split
    · exact reads_ok ⟨rfl, rfl⟩
    · exact reads_error
  case h_6 =>
    split
    case h_3 => exact reads_error
    all_goals exact reads_ok ⟨rfl, rfl⟩
  all_goals exact reads_ok ⟨encI_immI .., rfl⟩

theorem reads_decodeStore : (decodeStore f7 rs2 rs1 f3 rd).Reads (.full (word32 f7 rs2 rs1 f3 rd 0x23)) := by
  unfold decodeStore
  split
  case h_4 => exact reads_error
  all_goals exact reads_ok ⟨encS_immS .., rfl⟩

theorem reads_decodeStoreFp : (decodeStoreFp f7 rs2 rs1 f3 rd).Reads (.full (word32 f7 rs2 rs1 f3 rd 0x27)) := by
  unfold decodeStoreFp
  split
  · exact reads_ok ⟨encS_immS .., rfl⟩
  · exact reads_error

theorem reads_decodeOp : (decodeOp f7 rs2 rs1 f3 rd).Reads (.full (word32 f7 rs2 rs1 f3 rd 0x33)) := by
  unfold decodeOp
  split
  case h_2 =>
    split
    case h_3 => exact reads_error
    all_goals exact reads_ok ⟨rfl, rfl⟩
  case h_4 => exact reads_error
  all_goals split <;> exact reads_ok ⟨rfl, rfl⟩

theorem reads_decodeHwLoop : (decodeHwLoop f7 rs2 rs1 rd).Reads (.full (word32 f7 rs2 rs1 4 rd 0x2b)) := by
  obtain ⟨f4, l, rfl⟩ := exists_append (m := 4) (n := 1) rd
  rw [← encLoop_immI]
  unfold decodeHwLoop
  rw [Laws.loopCode, Laws.loopSet]
  split
  case h_7 | h_8 => exact reads_ok ⟨rfl, rfl⟩
  case h_9 => exact reads_error
  all_goals exact reads_zeroField fun hz => hz ▸ ⟨rfl, rfl⟩

theorem reads_decodeCustom1R : (decodeCustom1R f7 rs2 rs1 rd).Reads (.full (word32 f7 rs2 rs1 3 rd 0x2b)) := by
  unfold decodeCustom1R
  split
  case h_52 => exact reads_error
  case h_23 | h_24 | h_25 | h_26 | h_27 | h_34 | h_35 | h_36 | h_37 => -- one operand: the field of rs2 is zero
    exact reads_zeroField fun hz => hz ▸ ⟨rfl, rfl⟩
  all_goals exact reads_ok ⟨rfl, rfl⟩

theorem reads_decodeCustom1 : (decodeCustom1 f7 rs2 rs1 f3 rd).Reads (.full (word32 f7 rs2 rs1 f3 rd 0x2b)) := by
  unfold decodeCustom1
  split
  case h_4 => exact reads_decodeCustom1R
  case h_5 => exact reads_decodeHwLoop
  case h_6 => exact reads_error
  all_goals exact reads_ok ⟨encS_immS .., rfl⟩

/-- MADD, MSUB, NMSUB and NMADD, whose constructors `i` differ in the opcode alone. -/
theorem reads_decodeR4 {op : BitVec 7} {i : Reg → Instr} (hi : ∀ rs3, (i rs3).HasCode (encR4 op rd rs1 rs2 rs3 f3)) :
    (decodeR4 i f7).Reads (.full (word32 f7 rs2 rs1 f3 rd op)) := by
  obtain ⟨rs3, fmt, rfl⟩ := exists_append (m := 5) (n := 2) f7
  unfold decodeR4
  rw [BitVec.extractLsb'_append_eq_right, BitVec.extractLsb'_append_eq_left]
  split
  · exact reads_ok (hi rs3)
  · exact reads_error

theorem reads_decodeOpFp : (decodeOpFp f7 rs2 rs1 f3 rd).Reads (.full (word32 f7 rs2 rs1 f3 rd 0x53)) := by
  unfold decodeOpFp
  split
  case h_5 => -- the sign injections
    split
    case h_4 => exact reads_error
    all_goals exact reads_ok ⟨rfl, rfl⟩
  case h_6 => -- minimum and maximum
    split
    case h_3 => exact reads_error
    all_goals exact reads_ok ⟨rfl, rfl⟩
  case h_7 => exact reads_zeroField fun hz => hz ▸ ⟨rfl, rfl⟩
  case h_8 => -- the comparisons
    split
    case h_4 => exact reads_error
    all_goals exact reads_ok ⟨rfl, rfl⟩
  case h_9 | h_10 => -- the conversions, told apart by the field of rs2
    split
    case h_3 => exact reads_error
    all_goals exact reads_ok ⟨rfl, rfl⟩
  case h_11 => -- fmv.x.w and fclass.s
    split
    case h_3 => exact reads_error
    all_goals exact reads_zeroField fun hz => hz ▸ ⟨rfl, rfl⟩
  case h_12 => -- fmv.w.x
    split
    · exact reads_zeroField fun hz => hz ▸ ⟨rfl, rfl⟩
    · exact reads_error
  case h_13 => exact reads_error
  all_goals exact reads_ok ⟨rfl, rfl⟩

theorem reads_decodeCustom2 : (decodeCustom2 f7 rs2 rs1 f3 rd).Reads (.full (word32 f7 rs2 rs1 f3 rd 0x5b)) := by
  obtain ⟨f2, is3, rfl⟩ := exists_append (m := 2) (n := 5) f7
  unfold decodeCustom2
  rw [Laws.top2, Laws.low5]
  split
  case h_1 =>
    split
    case h_4 => exact reads_error
    all_goals exact reads_ok ⟨rfl, rfl⟩
  case h_2 =>
    split
    case h_3 => -- cv.bitrev: the upper bits of `Is3` are zero
      obtain ⟨high, sel, rfl⟩ := exists_append (m := 3) (n := 2) is3
      rw [extract_low _ _ 2 3 (by decide), extract_low _ _ 0 2 (by decide), BitVec.extractLsb'_append_eq_left,
        BitVec.extractLsb'_append_eq_right]
      exact reads_zeroField fun hz => hz ▸ ⟨rfl, rfl⟩
    case h_4 => exact reads_error
    all_goals exact reads_ok ⟨rfl, rfl⟩
  all_goals split <;> exact reads_ok ⟨rfl, rfl⟩

/-- The words without operands: rs1 and rd are zero, the other bits are one number (R164). -/
theorem reads_zeroField_system {i : Instr} {v : BitVec 12} (h : i.HasCode (encI 0 0x73 0 0 v)) :
    (zeroField (rs1 ++ rd) i).Reads (encI 0 0x73 rd rs1 v) :=
  reads_zeroField fun hz => by
    obtain ⟨rfl, rfl⟩ := append_eq_zero hz
    exact h

theorem reads_decodeSystem : (decodeSystem f7 rs2 rs1 f3 rd).Reads (.full (word32 f7 rs2 rs1 f3 rd 0x73)) := by
  rw [← encI_immI]
  unfold decodeSystem immI
  generalize f7 ++ rs2 = v
  split
  case h_1 =>
    split
    case h_6 => exact reads_error
    all_goals exact reads_zeroField_system ⟨rfl, rfl⟩
  case h_8 => exact reads_error
  all_goals exact reads_ok ⟨rfl, rfl⟩

theorem reads_decodeBranch : (decodeBranch f7 rs2 rs1 f3 rd).Reads (.full (word32 f7 rs2 rs1 f3 rd 0x63)) := by
  unfold decodeBranch
  split
  case h_7 => exact reads_error
  all_goals exact reads_ok ⟨encB_immB .., rfl⟩

theorem reads_decodeJalr : (decodeJalr f7 rs2 rs1 f3 rd).Reads (.full (word32 f7 rs2 rs1 f3 rd 0x67)) := by
  unfold decodeJalr
  split
  · exact reads_ok ⟨encI_immI .., rfl⟩
  · exact reads_error

end

/-! ### SIMD (R168) -/

section
variable {f6 : BitVec 6} {b25 : BitVec 1} {f3 : BitVec 3} {rd rs1 rs2 : Reg} {i i' : Instr}

/-- Bit 25 is zero in a register form. -/
theorem reads_simdReg (h : i.HasCode (encSimd f6 0 f3 rd rs1 rs2)) :
    (zeroField b25 i).Reads (encSimd f6 b25 f3 rd rs1 rs2) :=
  reads_zeroField fun hz => hz ▸ h

/-- Bit 25 and the field of rs2 are zero in a form with one operand. -/
theorem reads_simdUnary (h : i.HasCode (encSimd f6 0 f3 rd rs1 0)) :
    (zeroField (b25 ++ rs2) i).Reads (encSimd f6 b25 f3 rd rs1 rs2) :=
  reads_zeroField fun hz => by
    obtain ⟨rfl, rfl⟩ := append_eq_zero hz
    exact h

/-- Bit 25 tells two register forms apart. -/
theorem reads_simdPair (h : i.HasCode (encSimd f6 0 f3 rd rs1 rs2)) (h' : i'.HasCode (encSimd f6 1 f3 rd rs1 rs2)) :
    Decoded.Reads (if b25 = 0 then .ok i else .ok i') (encSimd f6 b25 f3 rd rs1 rs2) :=
  reads_ite (fun hz => reads_ok (hz ▸ h)) fun hz => reads_ok ((BitVec.eq_zero_or_eq_one b25).resolve_left hz ▸ h')

/-- Bit 25 is bit 0 of an immediate. -/
theorem reads_simdImm (h : i.HasCode (encImm6 f6 f3 rd rs1 (imm6Of b25 rs2))) :
    Decoded.Reads (.ok i) (encSimd f6 b25 f3 rd rs1 rs2) :=
  reads_ok (encImm6_imm6Of rs2 rs1 f3 rd f6 b25 ▸ h)

/-- A family whose six forms have the codes of `f6` is read with these codes. -/
theorem reads_sixForms {h b scH scB : Reg → Instr} {sciH sciB : BitVec 6 → Instr}
    (hh : (h rs2).HasCode (encSimd f6 0 0 rd rs1 rs2)) (hb : (b rs2).HasCode (encSimd f6 0 1 rd rs1 rs2))
    (hscH : (scH rs2).HasCode (encSimd f6 0 4 rd rs1 rs2)) (hscB : (scB rs2).HasCode (encSimd f6 0 5 rd rs1 rs2))
    (hsciH : ∀ v, (sciH v).HasCode (encImm6 f6 6 rd rs1 v)) (hsciB : ∀ v, (sciB v).HasCode (encImm6 f6 7 rd rs1 v)) :
    (sixForms f3 b25 rs2 h b scH scB sciH sciB).Reads (encSimd f6 b25 f3 rd rs1 rs2) := by
  unfold sixForms
  split
  · exact reads_simdReg hh
  · exact reads_simdReg hb
  · exact reads_simdReg hscH
  · exact reads_simdReg hscB
  · exact reads_simdImm (hsciH _)
  · exact reads_simdImm (hsciB _)
  · exact reads_error

theorem reads_decodeSimd : (decodeSimd f6 b25 rs2 rs1 f3 rd).Reads (encSimd f6 b25 f3 rd rs1 rs2) := by
  unfold decodeSimd
  split
  case h_15 => -- the absolute values
    split
    case h_3 => exact reads_error
    all_goals exact reads_simdUnary ⟨rfl, rfl⟩
  case h_22 => -- extraction and insertion
    split
    case h_7 => exact reads_error
    all_goals exact reads_simdImm ⟨rfl, rfl⟩
  case h_23 => -- the shuffles of one register
    split
    case h_1 | h_2 => exact reads_simdReg ⟨rfl, rfl⟩
    case h_3 | h_4 => exact reads_simdImm ⟨rfl, rfl⟩
    case h_5 => exact reads_error
  case h_24 | h_25 | h_26 => -- the shuffles of single bytes
    split
    · exact reads_simdImm ⟨rfl, rfl⟩
    · exact reads_error
  case h_27 => -- the shuffles of two registers
    split
    case h_3 => exact reads_error
    all_goals exact reads_simdReg ⟨rfl, rfl⟩
  case h_28 | h_29 => -- packing
    split
    · exact reads_simdPair ⟨rfl, rfl⟩ ⟨rfl, rfl⟩
    · exact reads_error
  case h_40 => -- the complex products
    split
    case h_5 => exact reads_error
    all_goals exact reads_simdPair ⟨rfl, rfl⟩ ⟨rfl, rfl⟩
  case h_41 => -- the complex conjugate
    split
    · exact reads_simdUnary ⟨rfl, rfl⟩
    · exact reads_error
  case h_42 => -- the rotated differences
    split
    case h_5 => exact reads_error
    all_goals exact reads_simdReg ⟨rfl, rfl⟩
  case h_43 | h_44 => -- the shifted sums and differences
    split
    case h_4 => exact reads_error
    all_goals exact reads_simdReg ⟨rfl, rfl⟩
  case h_45 => exact reads_error
  all_goals -- the regular families
    exact reads_sixForms ⟨rfl, rfl⟩ ⟨rfl, rfl⟩ ⟨rfl, rfl⟩ ⟨rfl, rfl⟩ (fun _ => ⟨rfl, rfl⟩) fun _ => ⟨rfl, rfl⟩

end

/-- The decoder on the fields of a 32-bit word. -/
theorem reads_decodeFields {f7 : BitVec 7} {rs2 rs1 rd : Reg} {f3 : BitVec 3} {op : BitVec 7} :
    (decodeFields f7 rs2 rs1 f3 rd op).Reads (.full (word32 f7 rs2 rs1 f3 rd op)) := by
  unfold decodeFields
  split
  · exact reads_decodeLoad
  · exact reads_decodeLoadFp
  · exact reads_decodeCustom0
  · exact reads_decodeMiscMem
  · exact reads_decodeOpImm
  · exact reads_ok ⟨encU_immU .., rfl⟩
  · exact reads_decodeStore
  · exact reads_decodeStoreFp
  · exact reads_decodeCustom1
  · exact reads_decodeOp
  · exact reads_ok ⟨encU_immU .., rfl⟩
  · exact reads_decodeR4 fun _ => ⟨rfl, rfl⟩
  · exact reads_decodeR4 fun _ => ⟨rfl, rfl⟩
  · exact reads_decodeR4 fun _ => ⟨rfl, rfl⟩
  · exact reads_decodeR4 fun _ => ⟨rfl, rfl⟩
  · exact reads_decodeOpFp
  · exact reads_decodeCustom2
  · exact reads_decodeBranch
  · exact reads_decodeJalr
  · exact reads_ok ⟨(encJ_immJ ..).trans (encU_immU ..), rfl⟩
  · exact reads_decodeSystem
  · obtain ⟨f6, b25, rfl⟩ := exists_append (m := 6) (n := 1) f7
    rw [BitVec.extractLsb'_append_eq_left, BitVec.extractLsb'_append_eq_right]
    exact reads_decodeSimd
  · exact reads_error

/-! ### Compressed instructions, quadrant by quadrant (R163) -/

section
variable {f3 : BitVec 3} {b12 : BitVec 1} {a b : Reg}

theorem reads_decodeQ0 : (decodeQ0 f3 b12 a b).Reads (.half (word16 f3 b12 a b 0)) := by
  unfold decodeQ0
  split
  · exact reads_unlessReserved fun himm => ⟨encode_cAddi4spn_immCiw .., himm⟩
  case h_6 => exact reads_error
  all_goals exact reads_ok ⟨encCl_immCl .., rfl⟩

/-- Bit 12 is zero in the shifts and in the register operations of 32-bit cores. -/
theorem reads_unlessReserved_bit12 {i : Instr} {c : BitVec 1 → Code} (h : i.HasCode (c 0)) :
    (unlessReserved (b12 == 0) i).Reads (c b12) :=
  reads_unlessReserved fun hb => beq_iff_eq.1 hb ▸ h

theorem reads_decodeQ1Alu : (decodeQ1Alu b12 a b).Reads (.half (word16 4 b12 a b 1)) := by
  obtain ⟨f2, rd, rfl⟩ := exists_append (m := 2) (n := 3) a
  simp only [decodeQ1Alu, Laws.high2, Laws.low3]
  split
  · exact reads_unlessReserved_bit12 (c := fun z => .half (word16 4 z _ b 1)) ⟨rfl, rfl⟩
  · exact reads_unlessReserved_bit12 (c := fun z => .half (word16 4 z _ b 1)) ⟨rfl, rfl⟩
  · exact reads_ok ⟨encode_cAndi_immCi .., rfl⟩
  · obtain ⟨g2, rs2, rfl⟩ := exists_append (m := 2) (n := 3) b
    rw [Laws.high2, Laws.low3]
    split <;> exact reads_unlessReserved_bit12 (c := fun z => .half (word16 4 z _ _ 1)) ⟨rfl, rfl⟩

theorem reads_decodeQ1 : (decodeQ1 f3 b12 a b).Reads (.half (word16 f3 b12 a b 1)) := by
  unfold decodeQ1
  split
  · refine reads_ite (fun ha => reads_ok ?_) fun ha => reads_ok ⟨encCi_immCi .., bne_iff_ne.2 ha⟩
    subst ha
    exact ⟨encCi_immCi .., rfl⟩
  · exact reads_ok ⟨encCj_immCj .., rfl⟩
  · exact reads_ok ⟨encCi_immCi .., rfl⟩
  · refine reads_ite (fun ha => ?_) fun ha => ?_
    · subst ha
      exact reads_unlessReserved fun himm => ⟨encode_cAddi16sp_immAddi16sp .., himm⟩
    · exact reads_unlessReserved fun himm => ⟨encCi_immCi .., Bool.and_eq_true_iff.2 ⟨bne_iff_ne.2 ha, himm⟩⟩
  · exact reads_decodeQ1Alu
  · exact reads_ok ⟨encCj_immCj .., rfl⟩
  · exact reads_ok ⟨encCb_immCb .., rfl⟩
  · exact reads_ok ⟨encCb_immCb .., rfl⟩

theorem reads_decodeQ2 : (decodeQ2 f3 b12 a b).Reads (.half (word16 f3 b12 a b 2)) := by
  unfold decodeQ2
  split
  · exact reads_unlessReserved_bit12 (c := fun z => .half (word16 0 z a b 2)) ⟨encCi_immCi .., rfl⟩
  · exact reads_unlessReserved fun ha => ⟨encLwsp_immLwsp .., ha⟩
  · exact reads_ok ⟨encLwsp_immLwsp .., rfl⟩
  · split
    · refine reads_ite (fun hb => ?_) fun hb => reads_ok ⟨rfl, bne_iff_ne.2 hb⟩
      subst hb
      exact reads_unlessReserved fun ha => ⟨rfl, ha⟩
    · refine reads_ite (fun hb => ?_) fun hb => reads_ok ⟨rfl, bne_iff_ne.2 hb⟩
      subst hb
      refine reads_ite (fun ha => ?_) fun ha => reads_ok ⟨rfl, bne_iff_ne.2 ha⟩
      subst ha
      exact reads_ok ⟨rfl, rfl⟩
  · exact reads_ok ⟨encSwsp_immSwsp .., rfl⟩
  · exact reads_ok ⟨encSwsp_immSwsp .., rfl⟩
  · exact reads_error

/-- The decoder on the fields of a parcel. -/
theorem reads_decodeFields16 {q : BitVec 2} : (decodeFields16 f3 b12 a b q).Reads (.half (word16 f3 b12 a b q)) := by
  unfold decodeFields16
  split
  · exact reads_decodeQ0
  · exact reads_decodeQ1
  · exact reads_decodeQ2
  · exact reads_error

end

/-- What the decoder accepts is the code of its answer. -/
theorem reads_decodeCode (c : Code) : (decodeCode c).Reads c := by
  cases c with
  | half h =>
    have hread := reads_decodeFields16 (f3 := h.extractLsb' 13 3) (b12 := h.extractLsb' 12 1) (a := h.extractLsb' 7 5)
      (b := h.extractLsb' 2 5) (q := h.extractLsb' 0 2)
    rwa [word16_fields] at hread
  | full w =>
    have hread := reads_decodeFields (f7 := w.extractLsb' 25 7) (rs2 := w.extractLsb' 20 5) (rs1 := w.extractLsb' 15 5)
      (f3 := w.extractLsb' 12 3) (rd := w.extractLsb' 7 5) (op := w.extractLsb' 0 7)
    rwa [word32_fields] at hread

/-- Settles O2: every answer of the decoder is read from the code of a well-formed instruction. -/
theorem encodeInvertsDecode : Obligations.EncodeInvertsDecode := reads_decodeCode

end Sys2Proof
end

section
/-! SUPPORT. The word operations of the model as arithmetic on integers: each gives the number that the same operation gives on
the integers, modulo 2^n (spec/40_rv32im.md sections 1 to 5 and 7). -/

namespace Sys2Proof.Machine

/-! Sums, products and quotients -/

section
variable {n : Nat} (x y : BitVec n)

/-- A word is known from its signed value, modulo 2^n. -/
theorem eq_ofInt {x : BitVec n} {z : Int} (h : x.toInt = z.bmod (2 ^ n)) : x = BitVec.ofInt n z :=
  BitVec.eq_of_toInt_eq (h.trans (BitVec.toInt_ofInt z).symm)

/-- A word is known from its unsigned value. -/
theorem eq_ofNat {x : BitVec n} {k : Nat} (h : x.toNat = k) : x = BitVec.ofNat n k := by
  rw [← h, BitVec.ofNat_toNat, BitVec.setWidth_eq]

theorem add_eq_ofInt : x + y = BitVec.ofInt n (x.toInt + y.toInt) := eq_ofInt (BitVec.toInt_add x y)

theorem sub_eq_ofInt : x - y = BitVec.ofInt n (x.toInt - y.toInt) := eq_ofInt BitVec.toInt_sub

theorem mul_eq_ofInt : x * y = BitVec.ofInt n (x.toInt * y.toInt) := eq_ofInt (BitVec.toInt_mul x y)

/-- Division toward zero; the quotient of the most negative number by -1 wraps. -/
theorem sdiv_eq_ofInt : x.sdiv y = BitVec.ofInt n (x.toInt.tdiv y.toInt) := eq_ofInt (BitVec.toInt_sdiv x y)

theorem srem_eq_ofInt : x.srem y = BitVec.ofInt n (x.toInt.tmod y.toInt) := by
  rw [← BitVec.toInt_srem, BitVec.ofInt_toInt]

theorem udiv_eq_ofNat : x / y = BitVec.ofNat n (x.toNat / y.toNat) := eq_ofNat BitVec.toNat_udiv

theorem umod_eq_ofNat : x % y = BitVec.ofNat n (x.toNat % y.toNat) := eq_ofNat BitVec.toNat_umod

end

/-- Adding a sign-extended immediate is adding its value. -/
theorem add_signExtend_eq_ofInt {m n : Nat} (h : m ≤ n) (x : BitVec n) (imm : BitVec m) :
    x + imm.signExtend n = BitVec.ofInt n (x.toInt + imm.toInt) := by
  rw [add_eq_ofInt, BitVec.toInt_signExtend_of_le h]

/-! The high half of a product -/

/-- The high word of a number of 64 bits is its quotient by 2^32, rounded down. -/
theorem extractLsb'_high_ofInt (z : Int) :
    (BitVec.ofInt 64 z).extractLsb' 32 32 = BitVec.ofInt 32 (z / 2 ^ 32) := by
  apply BitVec.eq_of_toNat_eq
  simp only [BitVec.extractLsb'_toNat, BitVec.toNat_ofInt, Nat.shiftRight_eq_div_pow]
  omega

theorem mulHigh_eq_ofInt (x y : BitVec 64) : mulHigh x y = BitVec.ofInt 32 (x.toInt * y.toInt / 2 ^ 32) := by
  rw [mulHigh, mul_eq_ofInt, extractLsb'_high_ofInt]

/-- A zero-extended word of 64 bits is not negative. -/
theorem toInt_setWidth_word (x : Word) : (x.setWidth 64).toInt = x.toNat := by
  have h : (x.setWidth 64).toNat = x.toNat := BitVec.toNat_setWidth_of_le (by decide)
  rw [BitVec.toInt_eq_toNat_of_lt (by omega), h]

theorem toInt_signExtend_word (x : Word) : (x.signExtend 64).toInt = x.toInt := BitVec.toInt_signExtend_of_le (by decide)

/-! Division and remainder (R245 to R248) -/

theorem divSigned_eq (x y : Word) : divSigned x y = if y = 0 then 0xFFFFFFFF else BitVec.ofInt 32 (x.toInt.tdiv y.toInt) := by
  rw [divSigned, sdiv_eq_ofInt]

theorem divUnsigned_eq (x y : Word) : divUnsigned x y = if y = 0 then 0xFFFFFFFF else BitVec.ofNat 32 (x.toNat / y.toNat) := by
  rw [divUnsigned, udiv_eq_ofNat]

theorem remSigned_eq (x y : Word) : remSigned x y = if y = 0 then x else BitVec.ofInt 32 (x.toInt.tmod y.toInt) := by
  rw [remSigned, srem_eq_ofInt]

theorem remUnsigned_eq (x y : Word) : remUnsigned x y = if y = 0 then x else BitVec.ofNat 32 (x.toNat % y.toNat) := by
  rw [remUnsigned, umod_eq_ofNat]

/-! Shifts -/

section
variable {n : Nat} (x : BitVec n) (k : Nat)

theorem shiftLeft_eq_ofNat : x <<< k = BitVec.ofNat n (x.toNat * 2 ^ k) := by
  apply BitVec.eq_of_toNat_eq
  rw [BitVec.toNat_shiftLeft, BitVec.toNat_ofNat, Nat.shiftLeft_eq]

theorem ushiftRight_eq_ofNat : x >>> k = BitVec.ofNat n (x.toNat / 2 ^ k) :=
  eq_ofNat ((BitVec.toNat_ushiftRight x k).trans (Nat.shiftRight_eq_div_pow ..))

/-- An arithmetic shift divides and rounds down. -/
theorem sshiftRight_eq_ofInt : x.sshiftRight k = BitVec.ofInt n (x.toInt / 2 ^ k) := by
  rw [BitVec.sshiftRight_eq, Int.shiftRight_eq_div_pow, Nat.cast_pow, Nat.cast_ofNat]

end

/-- The amount of a shift by a register (R230). -/
theorem shiftAmount_eq_mod (b : Word) : shiftAmount b = b.toNat % 32 := BitVec.extractLsb'_toNat ..

/-! Comparisons -/

theorem boolWord_slt (x y : Word) : boolWord (x.slt y) = if x.toInt < y.toInt then 1 else 0 := by
  simp only [boolWord, BitVec.slt_iff_toInt_lt]

theorem boolWord_ult (x y : Word) : boolWord (x.ult y) = if x.toNat < y.toNat then 1 else 0 := by
  simp only [boolWord, BitVec.ult_iff_toNat_lt]

/-! Immediates and offsets that end in zero bits -/

theorem toNat_append_zero {m : Nat} (x : BitVec m) (k : Nat) : (x ++ 0#k).toNat = x.toNat * 2 ^ k := by
  rw [BitVec.toNat_append, BitVec.toNat_ofNat, Nat.zero_mod, Nat.or_zero, Nat.shiftLeft_eq]

/-- An upper immediate (R201). -/
theorem append_zero_eq_ofNat {m : Nat} (x : BitVec m) (k : Nat) : x ++ 0#k = BitVec.ofNat (m + k) (x.toNat * 2 ^ k) :=
  eq_ofNat (toNat_append_zero x k)

/-- An offset in halfwords (R203, R205). -/
theorem offset_eq_ofInt {m : Nat} (imm : BitVec m) : offset imm = BitVec.ofInt 32 (2 * imm.toInt) :=
  congrArg (BitVec.ofInt 32) BitVec.toInt_append_zero

/-- Base register plus an offset in words (41_rv32c R261). -/
theorem State.addrWords_eq {m : Nat} (s : State) (rs1 : Reg) (imm : BitVec m) :
    s.addrWords rs1 imm = s.reg rs1 + BitVec.ofNat 32 (4 * imm.toNat) := by
  rw [State.addrWords, ← BitVec.ofNat_toNat, toNat_append_zero, Nat.mul_comm]
  rfl

end Sys2Proof.Machine
end

section
/-! SUPPORT. The integer instructions (spec/40_rv32im.md) and the compressed jumps, branches, loads and stores that expand to them
(spec/41_rv32c.md). Each clause is the shared form of completion that its instruction takes, with the value that the spec
writes. -/

namespace Sys2Proof.Machine

/-! The shared forms of completion at an encoded offset: in halfwords from the pc, in words from a base register -/

section
variable {s : State} {i : Instr} {len : Word} {rd r : Reg} {m : Nat} {imm : BitVec m}

theorem jumpsTo_of_offset (h : exec i s = jumpLink len rd (s.pc + offset imm) s) :
    JumpsTo s i len rd (s.pc + BitVec.ofInt 32 (2 * imm.toInt)) :=
  jumpsTo_of_jumpLink h (by rw [offset_eq_ofInt])

theorem branches_of_offset {b : Bool} {P : Prop} (h : exec i s = branchIf len b (offset imm) s) (hb : b = true ↔ P) :
    Branches s i len P (s.pc + BitVec.ofInt 32 (2 * imm.toInt)) := by
  rw [← offset_eq_ofInt]
  exact branches_of_branchIf h hb

theorem loads_of_addrWords (h : exec i s = loadTo len rd (s.loadWord (s.addrWords r imm)) s) :
    Loads s i len rd (s.loadWord (s.reg r + BitVec.ofNat 32 (4 * imm.toNat))) :=
  loads_of_loadTo h (by rw [State.addrWords_eq])

theorem stores_of_addrWords {v : Word} (hw : s.mem.wf = true)
    (h : exec i s = storeDone len (s.storeWord (s.addrWords r imm) v) s) :
    Stores s i len (s.reg r + BitVec.ofNat 32 (4 * imm.toNat)) 4 v 0 0 := by
  rw [← State.addrWords_eq]
  exact stores_of_storeWord hw h

end

/-! The statements -/

/-- Settles O35: each instruction writes back its value. -/
theorem integerImmediate : Obligations.IntegerImmediate := by
  intro s rd rs1 u imm sh a
  have himm : (sext12 imm).toInt = imm.toInt := BitVec.toInt_signExtend_of_le (by decide)
  have hauipc : s.pc + (u ++ 0#12) = BitVec.ofNat 32 (s.pc.toNat + u.toNat * 2 ^ 12) := by
    rw [append_zero_eq_ofNat, BitVec.ofNat_add, BitVec.ofNat_toNat, BitVec.setWidth_eq]
  have hslti : boolWord (a.slt (sext12 imm)) = if a.toInt < imm.toInt then 1 else 0 := by rw [boolWord_slt, himm]
  exact
    ⟨gives_of_writeBack rfl (append_zero_eq_ofNat u 12),
      gives_of_writeBack rfl hauipc,
      gives_of_writeBack rfl (add_signExtend_eq_ofInt (by decide) a imm),
      gives_of_writeBack rfl hslti,
      gives_of_writeBack rfl (boolWord_ult a (sext12 imm)),
      gives_of_writeBack rfl rfl,
      gives_of_writeBack rfl rfl,
      gives_of_writeBack rfl rfl,
      gives_of_writeBack rfl (shiftLeft_eq_ofNat a sh.toNat),
      gives_of_writeBack rfl (ushiftRight_eq_ofNat a sh.toNat),
      gives_of_writeBack rfl (sshiftRight_eq_ofInt a sh.toNat)⟩

/-- Settles O36: as with an immediate, the amount of a shift being the low five bits of `rs2`. -/
theorem integerRegister : Obligations.IntegerRegister := by
  intro s rd rs1 rs2 a b n
  have hn : shiftAmount b = n := shiftAmount_eq_mod b
  exact
    ⟨gives_of_writeBack rfl (add_eq_ofInt a b),
      gives_of_writeBack rfl (sub_eq_ofInt a b),
      gives_of_writeBack rfl (hn ▸ shiftLeft_eq_ofNat a (shiftAmount b)),
      gives_of_writeBack rfl (boolWord_slt a b),
      gives_of_writeBack rfl (boolWord_ult a b),
      gives_of_writeBack rfl rfl,
      gives_of_writeBack rfl (hn ▸ ushiftRight_eq_ofNat a (shiftAmount b)),
      gives_of_writeBack rfl (hn ▸ sshiftRight_eq_ofInt a (shiftAmount b)),
      gives_of_writeBack rfl rfl,
      gives_of_writeBack rfl rfl⟩

/-- Settles O37: products through 64 bits, quotients and remainders with their case of a zero divisor. -/
theorem multiplyAndDivide : Obligations.MultiplyAndDivide := by
  intro s rd rs1 rs2 a b
  have hmulh : mulHigh (a.signExtend 64) (b.signExtend 64) = BitVec.ofInt 32 (a.toInt * b.toInt / 2 ^ 32) := by
    rw [mulHigh_eq_ofInt, toInt_signExtend_word, toInt_signExtend_word]
  have hmulhsu : mulHigh (a.signExtend 64) (b.setWidth 64) = BitVec.ofInt 32 (a.toInt * b.toNat / 2 ^ 32) := by
    rw [mulHigh_eq_ofInt, toInt_signExtend_word, toInt_setWidth_word]
  have hmulhu : mulHigh (a.setWidth 64) (b.setWidth 64) = BitVec.ofNat 32 (a.toNat * b.toNat / 2 ^ 32) := by
    rw [mulHigh_eq_ofInt, toInt_setWidth_word, toInt_setWidth_word, ← BitVec.ofInt_natCast]
    push_cast
    rfl
  exact
    ⟨gives_of_writeBack rfl (mul_eq_ofInt a b),
      gives_of_writeBack rfl hmulh,
      gives_of_writeBack rfl hmulhsu,
      gives_of_writeBack rfl hmulhu,
      gives_of_writeBack rfl (divSigned_eq a b),
      gives_of_writeBack rfl (divUnsigned_eq a b),
      gives_of_writeBack rfl (remSigned_eq a b),
      gives_of_writeBack rfl (remUnsigned_eq a b)⟩

/-- Settles O38: each jump links and goes to its target, which is taken from the state before the link is written. -/
theorem jumps : Obligations.Jumps := by
  intro s rd rs1 j imm c
  exact
    ⟨jumpsTo_of_offset rfl,
      jumpsTo_of_jumpLink rfl rfl,
      jumpsTo_of_offset rfl,
      jumpsTo_of_offset rfl,
      jumpsTo_of_jumpLink rfl rfl,
      jumpsTo_of_jumpLink rfl rfl⟩

/-- Settles O39: the test of each branch is its comparison. -/
theorem branchInstructions : Obligations.BranchInstructions := by
  intro s rs1 rs2 c1 imm imm8 a b p q
  have hge : (!a.slt b) = true ↔ b.toInt ≤ a.toInt := by
    rw [Bool.not_eq_true', ← Bool.not_eq_true, BitVec.slt_iff_toInt_lt, Int.not_lt]
  have hgeu : (!a.ult b) = true ↔ b.toNat ≤ a.toNat := by
    rw [Bool.not_eq_true', ← Bool.not_eq_true, BitVec.ult_iff_toNat_lt, Nat.not_lt]
  exact
    ⟨branches_of_offset rfl beq_iff_eq,
      branches_of_offset rfl bne_iff_ne,
      branches_of_offset rfl BitVec.slt_iff_toInt_lt,
      branches_of_offset rfl hge,
      branches_of_offset rfl BitVec.ult_iff_toNat_lt,
      branches_of_offset rfl hgeu,
      branches_of_offset rfl beq_iff_eq,
      branches_of_offset rfl bne_iff_ne⟩

/-- Settles O40: each load gets its bytes from the address on, the least significant first. -/
theorem loadInstructions : Obligations.LoadInstructions := by
  intro s rd rs1 imm cd c1 u5 u6 a word
  exact
    ⟨fun _ => State.loadByte_of_hasData,
      loads_of_loadTo rfl rfl,
      loads_of_loadTo rfl rfl,
      loads_of_loadTo rfl rfl,
      loads_of_loadTo rfl rfl,
      loads_of_loadTo rfl rfl,
      loads_of_addrWords rfl,
      loads_of_addrWords rfl⟩

/-- Settles O41: each store writes its bytes and no base register, which x0 stands for. -/
theorem storeInstructions : Obligations.StoreInstructions := by
  intro s rs2 rs1 imm c2 c1 u5 u6 hw a v
  exact
    ⟨stores_of_storeByte hw rfl,
      stores_of_storeHalf hw rfl,
      stores_of_storeWord hw rfl,
      stores_of_addrWords hw rfl,
      stores_of_addrWords hw rfl⟩

end Sys2Proof.Machine
end

section
/-! SUPPORT. The words that the spec writes out. -/

namespace Sys2Proof

/-- Where the decoder answers an error, it reads no instruction. -/
theorem reads_nothing {d : Decoded} {e : DecodeError} (h : d = .error e) (i : Instr) : d ≠ .ok i := by
  rintro rfl
  cases h

/-- Settles O3: each word by evaluation of the decoder. -/
theorem specWordsDecode : Obligations.SpecWordsDecode :=
  ⟨rfl, rfl, rfl, rfl, rfl, rfl, rfl, rfl, rfl, rfl, rfl, reads_nothing rfl, reads_nothing rfl, reads_nothing rfl⟩

end Sys2Proof
end

section
/-! SUPPORT. The compressed instructions that compute (spec/41_rv32c.md): each is the two-byte form of completion of its expansion, with
the value that the spec writes. -/

namespace Sys2Proof.Machine

/-- A signed immediate above `k` zero bits is its value scaled by 2^k (41_rv32c R271, R272). -/
theorem signExtend_append_zero_eq_ofInt {m : Nat} (imm : BitVec m) (k n : Nat) :
    (imm ++ 0#k).signExtend n = BitVec.ofInt n (2 ^ k * imm.toInt) :=
  congrArg (BitVec.ofInt n) BitVec.toInt_append_zero

/-- Adding a scaled signed immediate is adding its scaled value. -/
theorem add_signExtend_append_zero_eq_ofInt {m n : Nat} (x : BitVec n) (imm : BitVec m) {k : Nat} (h : m + k ≤ n) :
    x + (imm ++ 0#k).signExtend n = BitVec.ofInt n (x.toInt + 2 ^ k * imm.toInt) := by
  rw [add_signExtend_eq_ofInt h, BitVec.toInt_append_zero]

/-- Settles O42: `c.nop` retires alone, each other instruction writes back the value of its expansion. -/
theorem compressedCompute : Obligations.CompressedCompute := by
  intro s rd rs2 cd c2 imm u8 sh x y
  have hspn : s.addrWords 2 u8 = s.reg 2 + BitVec.ofNat 32 (4 * u8.toNat) := State.addrWords_eq s 2 u8
  have hsp : s.reg 2 + (imm ++ 0#4).signExtend 32 = BitVec.ofInt 32 ((s.reg 2).toInt + 16 * imm.toInt) :=
    add_signExtend_append_zero_eq_ofInt (s.reg 2) imm (by decide)
  have hlui : (imm ++ 0#12).signExtend 32 = BitVec.ofInt 32 (imm.toInt * 2 ^ 12) := by
    rw [signExtend_append_zero_eq_ofInt, Int.mul_comm]
  exact
    ⟨completesWith_none { len := 2 } rfl (by simp [Retired.events]) rfl,
      gives_of_writeBack rfl hspn,
      gives_of_writeBack rfl (add_signExtend_eq_ofInt (by decide) (s.reg rd) imm),
      gives_of_writeBack rfl rfl,
      gives_of_writeBack rfl hsp,
      gives_of_writeBack rfl hlui,
      gives_of_writeBack rfl (ushiftRight_eq_ofNat (s.reg x) sh.toNat),
      gives_of_writeBack rfl (sshiftRight_eq_ofInt (s.reg x) sh.toNat),
      gives_of_writeBack rfl rfl,
      gives_of_writeBack rfl (sub_eq_ofInt (s.reg x) y),
      gives_of_writeBack rfl rfl,
      gives_of_writeBack rfl rfl,
      gives_of_writeBack rfl rfl,
      gives_of_writeBack rfl (shiftLeft_eq_ofNat (s.reg rd) sh.toNat),
      gives_of_writeBack rfl rfl,
      gives_of_writeBack rfl (add_eq_ofInt (s.reg rd) (s.reg rs2))⟩

end Sys2Proof.Machine
end

section
/-! SUPPORT. The instructions of spec/42_zicsr_zifencei_priv.md: completing over an effect on the hart's own state, and completing
while a counter that the instruction wrote does not count it. -/

namespace Sys2Proof.Machine

/-! ### Completing -/

/-- Retiring over an effect that leaves the register files and memory alone completes with that effect. -/
theorem completesWith_retire {e s : State} {i : Instr} {ev : BitVec 16} (r : Retired) (hw : r.written = 0)
    (he : r.events = ev) (hx : e.x = s.x) (hf : e.f = s.f) (hm : e.mem = s.mem) (h : exec i s = .next (s.retire r e)) :
    CompletesWith e s i 0 0 r.len r.target ev := by
  subst he
  refine ⟨_, h, writesReg_none fun q => ?_, ?_, fun a => ?_, State.retire_completes s e r hw⟩
  · rw [State.retire_reg, State.reg_congr hx]
  · rw [State.retire_f, hf]
  · rw [State.retire_mem, hm]

/-- An instruction that flushes leaves nothing prefetched (20_memory R151). -/
theorem State.retire_stale_of_flush (s t : State) {r : Retired} (h : r.flush = true) : (s.retire r t).stale = [] := by
  unfold State.retire
  split
  · rfl
  · split <;> simp [h]

/-- `s` with the counters of `m` inhibited as well. -/
def State.inhibiting (s : State) (m : Word) : State := { s with mcountinhibit := s.mcountinhibit ||| m }

theorem State.inhibiting_zero (s : State) : s.inhibiting 0 = s := by
  unfold State.inhibiting
  rw [show s.mcountinhibit ||| 0 = s.mcountinhibit from BitVec.or_zero]

/-- A counter that is written is inhibited for the instruction that writes it (92 D17). -/
theorem State.inhibited_inhibiting (s : State) (m : Word) (n : Nat) :
    (s.inhibiting m).inhibited n = (s.inhibited n || m.getLsbD n) :=
  BitVec.getLsbD_or

/-- Retiring with counters written is retiring, with no counter written, from the state that inhibits them. -/
theorem State.retire_eq_inhibiting (s t : State) (r : Retired) :
    s.retire r t = (s.inhibiting r.written).retire { r with written := 0 } t := by
  have hi : ∀ c, retireInstret s r c = retireInstret (s.inhibiting r.written) { r with written := 0 } c := fun c => by
    simp [retireInstret, State.inhibited_inhibiting]
  have hc : ∀ i c, retireCounter s r i c = retireCounter (s.inhibiting r.written) { r with written := 0 } i c :=
    fun i c => by
      have h0 : (0 : Word).getLsbD (i + 3) = false := BitVec.getLsbD_zero
      unfold retireCounter
      dsimp only
      rw [State.inhibited_inhibiting, h0, Bool.not_or, ← Bool.and_assoc, Bool.not_false, Bool.and_true]
      rfl
  unfold State.retire
  simp only [hi, hc]
  rfl

/-! ### Fences, sleep and `dret` -/

/-- Settles O33: both retire with a flush. -/
theorem fencesOnlyFlush : Obligations.FencesOnlyFlush := by
  intro s imm rs1 rd i hi
  have hx : exec i s = .next (s.retire { flush := true } s) := by rcases hi with rfl | rfl <;> rfl
  refine ⟨completesWith_none { flush := true } rfl (by simp [Retired.events]) hx, fun t ht => ?_⟩
  cases hx.symm.trans ht
  exact State.retire_stale_of_flush s s rfl

/-- When `wfi` is a nop, as the claim lists it: in Debug Mode, where no trigger matches, it is one already. -/
theorem State.wfiIsNop_iff {s : State} : s.wfiIsNop = true ↔
    s.debugReq = true ∨ s.debugPending = true ∨ s.debugMode = true ∨ s.stepPhase = .armed ∨ s.cfg.corevCluster = true ∨
      s.irq &&& 0xFFFF0888 &&& s.mie ≠ 0 ∨ (s.tdata1.getLsbD 2 = true ∧ (s.tdata2 = s.pc ∨ s.tdata2 = s.pc + 4)) := by
  cases hd : s.debugMode
  · simp only [State.wfiIsNop, State.debugRequested, State.triggerAt, State.mip, hd, Bool.or_eq_true, Bool.and_eq_true,
      beq_iff_eq, bne_iff_ne, Bool.not_false, Bool.false_eq_true, eq_comm (a := s.tdata2)]
    tauto
  · simp [State.wfiIsNop, hd]

/-- Settles O34: the model's condition for a nop is that of the claim. -/
theorem wfiSleepsOrIsNop : Obligations.WfiSleepsOrIsNop := by
  intro s matched
  have hx : exec .wfi s = .next (s.retire {} (if s.wfiIsNop then s else { s with sleeping := true })) := rfl
  constructor
  · intro h
    rw [if_pos (State.wfiIsNop_iff.2 h)] at hx
    exact completesWith_none {} rfl (by simp [Retired.events]) hx
  · intro hreq hpend hdebug hstep hcluster hirq hmatch
    have hnop : ¬ s.wfiIsNop = true := by
      simp only [State.wfiIsNop_iff, hreq, hpend, hdebug, hstep, hcluster, hirq, ne_eq, not_true_eq_false,
        Bool.false_eq_true, false_or]
      exact hmatch
    rw [if_neg hnop] at hx
    exact completesWith_retire {} rfl (by simp [Retired.events]) rfl rfl rfl hx

/-- Settles O22: in Debug Mode `dret` retires to dpc, outside it raises the illegal-instruction exception. -/
theorem dretResumes : Obligations.DretResumes := by
  intro s
  constructor
  · intro hd
    exact completesWith_retire { target := some s.dpc } rfl (by simp [Retired.events]) rfl rfl rfl (if_pos hd)
  · intro hd
    have hx : exec .dret s = illegal s := if_neg (Bool.not_eq_true _ ▸ hd)
    exact (raises_of_raise hx).1 hd

/-! ### The CSR instructions -/

/-- Only a write to mcause can be undefined (10_state R55, 93 U3). -/
theorem State.csrWrite_next {s : State} {a : BitVec 12} (h : a ≠ 0x342) (v : Word) : ∃ e, s.csrWrite a v = .next e := by
  unfold State.csrWrite
  dsimp only
  split
  · exact ⟨_, rfl⟩
  · exact ⟨_, rfl⟩
  · exact ⟨_, rfl⟩
  · unfold State.csrWritePlain
    split
    case h_9 => exact absurd rfl h
    all_goals exact ⟨_, rfl⟩

/-- The counter that a write to a counter bank writes. -/
theorem countersWritten_eq (a : BitVec 12) : countersWritten a =
    if a.extractLsb' 5 7 = 0x58 ∨ a.extractLsb' 5 7 = 0x5C then 1#32 <<< (a.extractLsb' 0 5).toNat else 0 := by
  simp only [countersWritten, Bool.or_eq_true, beq_iff_eq]
  rfl

/-- Only an access to a counter bank inhibits a counter. -/
theorem State.inhibiting_countersWritten (s : State) (a : BitVec 12) : s.inhibiting (countersWritten a) =
    if a.extractLsb' 5 7 = 0x58 ∨ a.extractLsb' 5 7 = 0x5C then
      { s with mcountinhibit := s.mcountinhibit ||| 1#32 <<< (a.extractLsb' 0 5).toNat } else s := by
  rw [countersWritten_eq]
  split
  · rfl
  · exact s.inhibiting_zero

/-- The CSRs that are read-only as a whole (10_state R38 step 4, R62). -/
theorem csrReadOnly_iff {a : BitVec 12} : csrReadOnly a = true ↔ a.extractLsb' 10 2 = 3 ∨ a = 0x7A4 := by
  simp [csrReadOnly]

/-- A CSR instruction that does not write gives the old value. -/
theorem gives_of_csrRead {s : State} {i : Instr} {rd : Reg} {a : BitVec 12} {new : Word → Word} {old : Word}
    (hr : s.csrRead a = some old) (hx : exec i s = csrAccess rd a false new s) : Gives s i 4 rd old := by
  have ha : csrAccess rd a false new s = .next (s.retire {} (s.setReg rd old)) := by
    unfold csrAccess
    rw [hr]
    rfl
  exact completesWith_setReg {} rfl (by simp [Retired.events]) (hx.trans ha)

/-- A CSR instruction that writes completes over what it wrote, in a state where the counters that it wrote are inhibited. -/
theorem completes_of_csrWrite {s e : State} {i : Instr} {rd : Reg} {a : BitVec 12} {new : Word → Word} {old : Word}
    (hx : exec i s = csrAccess rd a true new s) (hr : s.csrRead a = some old) (ho : csrReadOnly a = false)
    (hw : s.csrWrite a (new old) = .next e) :
    ∃ t, exec i s = .next t ∧ WritesReg s t rd old ∧ t.f = s.f ∧ KeepsMemory s t ∧
      Completes e (s.inhibiting (countersWritten a)) t 4 none 0 := by
  obtain ⟨-, -, hex, hef, hem⟩ := State.csrWrite_keeps hw
  have he : Retired.events {} = 0 := by simp [Retired.events]
  have ht := hx.trans (csrAccess_of_write hr ho hw)
  rw [State.retire_eq_inhibiting] at ht
  refine ⟨_, ht, fun q => ?_, ?_, fun b => ?_, he ▸ (State.retire_completes _ _ {} rfl).of_frame ?_⟩
  · rw [State.retire_reg, State.reg_setReg, State.reg_congr hex]
  · rw [State.retire_f, State.setReg_f, hef]
  · rw [State.retire_mem, State.setReg_mem, hem]
  · rw [State.setReg_frame]

/-- Settles O25: the forms that write nothing, then the access that all the others make. -/
theorem csrInstructionsReadAndWrite : Obligations.CsrInstructionsReadAndWrite := by
  intro s rd rs1 u a old hr counter s'
  have hs : s' = s.inhibiting (countersWritten a) := (s.inhibiting_countersWritten a).symm
  constructor
  · simp only [List.forall_mem_cons]
    exact ⟨gives_of_csrRead hr exec_csrrs, gives_of_csrRead hr exec_csrrc, gives_of_csrRead hr exec_csrrsi,
      gives_of_csrRead hr exec_csrrci, List.forall_mem_nil _⟩
  · intro hro htinfo i v hi
    obtain ⟨new, hx, rfl⟩ := exec_csrForm hi
    have ho : csrReadOnly a = false := Bool.eq_false_iff.2 fun h => (csrReadOnly_iff.1 h).elim hro htinfo
    refine ⟨fun ha => State.csrWrite_next ha _, fun e he => ?_, fun r href => hx.trans (csrAccess_of_refused hr ho href)⟩
    exact hs ▸ completes_of_csrWrite hx hr ho he

end Sys2Proof.Machine
end

section
/-! SUPPORT. How a floating-point instruction executes (spec/43_rv32f_zfinx.md R322 to R326, R351): when it is illegal, and what it
does to the state when it is not. -/

namespace Sys2Proof.Machine

/-! ### Illegal -/

section
variable {s : State} {rd : Reg}

theorem fpTo_of_off (h : ¬ FpOn s) (v : FpResult) : fpTo rd v s = illegal s := if_neg fun e => h (State.fpUsable_iff.1 e)

theorem fpToInt_of_off (h : ¬ FpOn s) (v : FpResult) : fpToInt rd v s = illegal s :=
  if_neg fun e => h (State.fpUsable_iff.1 e)

theorem fpRounded_of_off (h : ¬ FpOn s) (rm : BitVec 3) (v : Rounding → FpResult) : fpRounded rm rd v s = illegal s := by
  unfold fpRounded
  split
  · exact fpTo_of_off h _
  · rfl

theorem fpRoundedToInt_of_off (h : ¬ FpOn s) (rm : BitVec 3) (v : Rounding → FpResult) :
    fpRoundedToInt rm rd v s = illegal s := by
  unfold fpRoundedToInt
  split
  · exact fpToInt_of_off h _
  · rfl

theorem ifFRegs_illegal (s : State) : ifFRegs s (illegal s) = illegal s := ite_self _

theorem fpLoad_of_off (h : ¬ FpOn s) (len a : Word) : fpLoad len rd a s = illegal s := by
  unfold fpLoad
  rw [if_neg fun e => h (State.fpUsable_iff.1 e), ifFRegs_illegal]

theorem fpStore_of_off (h : ¬ FpOn s) (len a : Word) : fpStore len rd a s = illegal s := by
  unfold fpStore
  rw [if_neg fun e => h (State.fpUsable_iff.1 e), ifFRegs_illegal]

/-- With ZFINX there are no F registers to load, store or move (R351). -/
theorem ifFRegs_of_zfinx (h : s.cfg.zfinx = true) (r : Result) : ifFRegs s r = illegal s :=
  if_neg fun e => absurd ((hasFs_iff.1 e).2.symm.trans h) (by decide)

theorem ifFRegs_of_on (h : FpOn s) (hz : s.cfg.zfinx = false) (r : Result) : ifFRegs s r = r :=
  if_pos (hasFs_iff.2 ⟨h.1, hz⟩)

/-! The rounding mode (R323) -/

theorem State.rounding_eq (s : State) (rm : BitVec 3) : s.rounding rm = roundingOf (if rm = 7 then s.frm else rm) :=
  (apply_ite roundingOf ..).symm

theorem roundingOf_reserved : ∀ m ∈ [5#3, 6#3, 7#3], roundingOf m = none := by simp [roundingOf]

theorem roundingOf_legal {m : Rounding} {k : BitVec 3}
    (h : (m, k) ∈ [(.rne, 0#3), (.rtz, 1#3), (.rdn, 2#3), (.rup, 3#3), (.rmm, 4#3)]) : roundingOf k = some m := by
  simp only [List.mem_cons, List.not_mem_nil, or_false, Prod.mk.injEq] at h
  rcases h with ⟨rfl, rfl⟩ | ⟨rfl, rfl⟩ | ⟨rfl, rfl⟩ | ⟨rfl, rfl⟩ | ⟨rfl, rfl⟩ <;> rfl

theorem fpRounded_of_reserved {rm : BitVec 3} (h : s.rounding rm = none) (v : Rounding → FpResult) :
    fpRounded rm rd v s = illegal s := by
  unfold fpRounded; rw [h]

theorem fpRoundedToInt_of_reserved {rm : BitVec 3} (h : s.rounding rm = none) (v : Rounding → FpResult) :
    fpRoundedToInt rm rd v s = illegal s := by
  unfold fpRoundedToInt; rw [h]

end

/-! The instructions of the F opcodes, as the decoder lists them -/

/-- Where the decoder reads an instruction, that is illegal in `s`. -/
def IllegalIn (s : State) (d : Decoded) : Prop := ∀ i, d = .ok i → exec i s = illegal s

section
variable {s : State}

theorem illegalIn_ok {i : Instr} (h : exec i s = illegal s) : IllegalIn s (.ok i) := by
  rintro _ ⟨⟩; exact h

theorem illegalIn_error {e : DecodeError} : IllegalIn s (.error e) := by
  rintro _ ⟨⟩

theorem illegalIn_zeroField {n : Nat} {z : BitVec n} {i : Instr} (h : exec i s = illegal s) : IllegalIn s (zeroField z i) := by
  unfold zeroField
  split
  · exact illegalIn_ok h
  · exact illegalIn_error

variable {f7 : BitVec 7} {rs2 rs1 : Reg} {f3 : BitVec 3} {rd : Reg}

theorem illegalIn_decodeR4 {i : Reg → Instr} (h : ∀ rs3, exec (i rs3) s = illegal s) : IllegalIn s (decodeR4 i f7) := by
  unfold decodeR4
  split
  · exact illegalIn_ok (h _)
  · exact illegalIn_error

theorem illegalIn_decodeLoadFp (h : ¬ FpOn s) : IllegalIn s (decodeLoadFp f7 rs2 rs1 f3 rd) := by
  unfold decodeLoadFp
  split
  · exact illegalIn_ok (fpLoad_of_off h ..)
  · exact illegalIn_error

theorem illegalIn_decodeStoreFp (h : ¬ FpOn s) : IllegalIn s (decodeStoreFp f7 rs2 rs1 f3 rd) := by
  unfold decodeStoreFp
  split
  · exact illegalIn_ok (fpStore_of_off h ..)
  · exact illegalIn_error

theorem illegalIn_decodeOpFp (h : ¬ FpOn s) : IllegalIn s (decodeOpFp f7 rs2 rs1 f3 rd) := by
  unfold decodeOpFp
  split
  case h_5 => -- the sign injections
    split
    case h_4 => exact illegalIn_error
    all_goals exact illegalIn_ok (fpTo_of_off h _)
  case h_6 => -- minimum and maximum
    split
    case h_3 => exact illegalIn_error
    all_goals exact illegalIn_ok (fpTo_of_off h _)
  case h_7 => exact illegalIn_zeroField (fpRounded_of_off h ..)
  case h_8 => -- the comparisons
    split
    case h_4 => exact illegalIn_error
    all_goals exact illegalIn_ok (fpToInt_of_off h _)
  case h_9 => -- to an integer
    split
    case h_3 => exact illegalIn_error
    all_goals exact illegalIn_ok (fpRoundedToInt_of_off h ..)
  case h_10 => -- from an integer
    split
    case h_3 => exact illegalIn_error
    all_goals exact illegalIn_ok (fpRounded_of_off h ..)
  case h_11 => -- fmv.x.w and fclass.s
    split
    · exact illegalIn_zeroField ((congrArg (ifFRegs s) (fpToInt_of_off h _)).trans (ifFRegs_illegal s))
    · exact illegalIn_zeroField (fpToInt_of_off h _)
    · exact illegalIn_error
  case h_12 => -- fmv.w.x
    split
    · exact illegalIn_zeroField ((congrArg (ifFRegs s) (fpTo_of_off h _)).trans (ifFRegs_illegal s))
    · exact illegalIn_error
  case h_13 => exact illegalIn_error
  all_goals exact illegalIn_ok (fpRounded_of_off h ..)

/-- Every instruction of the seven opcodes of F. -/
theorem illegalIn_decodeFields (h : ¬ FpOn s) {op : BitVec 7}
    (hop : op ∈ [0x07#7, 0x27#7, 0x43#7, 0x47#7, 0x4B#7, 0x4F#7, 0x53#7]) : IllegalIn s (decodeFields f7 rs2 rs1 f3 rd op) := by
  simp only [List.mem_cons, List.not_mem_nil, or_false] at hop
  rcases hop with rfl | rfl | rfl | rfl | rfl | rfl | rfl
  · exact illegalIn_decodeLoadFp h
  · exact illegalIn_decodeStoreFp h
  · exact illegalIn_decodeR4 (i := (.fmaddS rd rs1 rs2 · f3)) fun _ => fpRounded_of_off h ..
  · exact illegalIn_decodeR4 (i := (.fmsubS rd rs1 rs2 · f3)) fun _ => fpRounded_of_off h ..
  · exact illegalIn_decodeR4 (i := (.fnmsubS rd rs1 rs2 · f3)) fun _ => fpRounded_of_off h ..
  · exact illegalIn_decodeR4 (i := (.fnmaddS rd rs1 rs2 · f3)) fun _ => fpRounded_of_off h ..
  · exact illegalIn_decodeOpFp h

end

/-- Only compressed instructions have reserved operands (41_rv32c R293). -/
theorem wellFormed_of_encode_full {i : Instr} {w : Word} (h : encode i = .full w) : i.wellFormed = true := by
  unfold Instr.wellFormed
  split
  case h_10 => rfl
  all_goals cases h

/-- Settles O24: with the unit off by the decoder's list of the F opcodes, otherwise instruction by instruction. -/
theorem floatIllegalWhenOff : Obligations.FloatIllegalWhenOff := by
  intro s i
  refine ⟨fun hoff hi => raises_of_raise ?_, fun hz hi => raises_of_raise ?_, fun rm hrm hi => raises_of_raise ?_⟩
  · rcases hi with ⟨w, hw, hop⟩ | ⟨a, b, c, rfl | rfl⟩ | ⟨r, u, rfl | rfl⟩
    · have hdec := Laws.RoundTrip.decodeCode_encode i (wellFormed_of_encode_full hw)
      rw [hw] at hdec
      exact illegalIn_decodeFields hoff hop i hdec
    · exact fpLoad_of_off hoff ..
    · exact fpStore_of_off hoff ..
    · exact fpLoad_of_off hoff ..
    · exact fpStore_of_off hoff ..
  · have hx : ∀ r, ifFRegs s r = illegal s := ifFRegs_of_zfinx hz
    rcases hi with ⟨a, b, c, rfl | rfl⟩ | ⟨a, b, c, rfl | rfl⟩ | ⟨r, u, rfl | rfl⟩ | ⟨a, b, rfl | rfl⟩
    all_goals exact hx _
  · have hr : s.rounding rm = none := (s.rounding_eq rm).trans (roundingOf_reserved _ hrm)
    have hf : ∀ rd v, fpRounded rm rd v s = illegal s := fun _ => fpRounded_of_reserved hr
    have hint : ∀ rd v, fpRoundedToInt rm rd v s = illegal s := fun _ => fpRoundedToInt_of_reserved hr
    simp only [List.mem_cons, List.not_mem_nil, or_false] at hi
    rcases hi with ⟨a, b, c, d, hi⟩ | ⟨a, b, c, hi⟩ | ⟨a, b, hi⟩
    · rcases hi with rfl | rfl | rfl | rfl <;> exact hf _ _
    · rcases hi with rfl | rfl | rfl | rfl <;> exact hf _ _
    · rcases hi with rfl | rfl | rfl | rfl | rfl
      exacts [hf _ _, hint _ _, hint _ _, hf _ _, hf _ _]

/-! ### Executing -/

/-- Raising flags and marking FS is the effect that the claims name. -/
theorem State.markDirty_accrue {s : State} (h : s.cfg.fpu = true) (fl : BitVec 5) :
    (s.accrue fl).markDirty = s.afterFp fl := State.markDirty_eq h

theorem State.setFreg_frame (s : State) (r : Reg) (v : Word) :
    s.setFreg r v = { s with x := (s.setFreg r v).x, f := (s.setFreg r v).f } := by
  unfold State.setFreg
  split
  · rw [State.setReg_frame]
  · rfl

/-- What holds the register files of `s.setFreg r v`, with the configuration of `s`, has `r` written. -/
theorem writesFreg_setFreg {s t : State} {r : Reg} {v : Word} (hx : t.x = (s.setFreg r v).x) (hf : t.f = (s.setFreg r v).f)
    (hc : t.cfg = s.cfg) : WritesFreg s t r v := by
  unfold WritesFreg
  cases hz : s.cfg.zfinx
  · have he : s.setFreg r v = { s with f := s.f.set r.toFin v } := if_neg (by simp [hz])
    rw [he] at hx hf
    refine ⟨State.reg_congr hx, fun q => ?_⟩
    unfold State.freg
    rw [hc, hz, hf]
    simp [Vector.getElem_set, BitVec.toNat_inj, eq_comm]
  · have he : s.setFreg r v = s.setReg r v := if_pos hz
    rw [he] at hx hf
    exact ⟨fun q => (State.reg_congr hx q).trans (s.reg_setReg r q v), hf.trans (s.setReg_f r v)⟩

section
variable {s : State} {i : Instr} {rd : Reg}

/-- An instruction with a floating-point result, where F is on (R322). -/
theorem fpGives_of_fpTo {v v' : FpResult} (h : FpOn s) (hx : exec i s = fpTo rd v s) (hv : v = v') : FpGives s i rd v' := by
  subst hv
  have hfpu : (s.setFreg rd v.1).cfg.fpu = true := (congrArg Config.fpu (s.setFreg_cfg rd v.1)).trans h.1
  have ht : exec i s = .next (s.retire {} ((s.setFreg rd v.1).afterFp v.2)) := by
    rw [hx, fpTo, if_pos (State.fpUsable_iff.2 h), State.markDirty_accrue hfpu]
  have he : Retired.events {} = 0 := by simp [Retired.events]
  refine ⟨_, ht, writesFreg_setFreg ?_ ?_ ?_, fun a => ?_, he ▸ (State.retire_completes s _ {} rfl).of_frame ?_⟩
  · rw [State.retire_x]; rfl
  · rw [State.retire_f]; rfl
  · rw [State.retire_cfg]; exact s.setFreg_cfg rd v.1
  · rw [State.retire_mem]; exact congrArg (Memory.byte · a) (s.setFreg_mem rd v.1)
  · rw [State.setFreg_frame]; rfl

/-- An instruction with an integer result, where F is on. -/
theorem fpGivesInt_of_fpToInt {v v' : FpResult} (h : FpOn s) (hx : exec i s = fpToInt rd v s) (hv : v = v') :
    FpGivesInt s i rd v' := by
  subst hv
  have hfpu : (s.setReg rd v.1).cfg.fpu = true := (congrArg Config.fpu (s.setReg_cfg rd v.1)).trans h.1
  have ht : exec i s = .next (s.retire {} ((s.setReg rd v.1).afterFp v.2)) := by
    rw [hx, fpToInt, if_pos (State.fpUsable_iff.2 h), State.markDirty_accrue hfpu]
  have he : Retired.events {} = 0 := by simp [Retired.events]
  refine ⟨_, ht, fun q => ?_, ?_, fun a => ?_, he ▸ (State.retire_completes s _ {} rfl).of_frame ?_⟩
  · rw [State.retire_reg]; exact s.reg_setReg rd q v.1
  · rw [State.retire_f]; exact s.setReg_f rd v.1
  · rw [State.retire_mem]; exact congrArg (Memory.byte · a) (s.setReg_mem rd v.1)
  · rw [State.setReg_frame]; rfl

/-- A load into an F register, where there are F registers (R325). -/
theorem completes_fpLoad {len a : Word} (h : FpOn s) (hz : s.cfg.zfinx = false) (hx : exec i s = fpLoad len rd a s) :
    ∃ t, exec i s = .next t ∧ WritesFreg s t rd (s.loadWord a) ∧ KeepsMemory s t ∧
      Completes { s with mstatus := s.mstatus ||| 0x6000 } s t len none evLoad := by
  have hd : (s.setFreg rd (s.loadWord a)).markDirty =
      { s.setFreg rd (s.loadWord a) with mstatus := (s.setFreg rd (s.loadWord a)).mstatus ||| 0x6000 } :=
    if_pos (by rw [State.setFreg_cfg]; exact hasFs_iff.2 ⟨h.1, hz⟩)
  have ht : exec i s = .next (s.retire { len := len, load := true }
      { s.setFreg rd (s.loadWord a) with mstatus := (s.setFreg rd (s.loadWord a)).mstatus ||| 0x6000 }) := by
    rw [hx, fpLoad, ifFRegs_of_on h hz, if_pos (State.fpUsable_iff.2 h), hd]
  have he : Retired.events { len := len, load := true } = evLoad := by simp [Retired.events]
  refine ⟨_, ht, writesFreg_setFreg ?_ ?_ ?_, fun b => ?_,
    he ▸ (State.retire_completes s _ { len := len, load := true } rfl).of_frame ?_⟩
  · rw [State.retire_x]
  · rw [State.retire_f]
  · rw [State.retire_cfg]; exact s.setFreg_cfg ..
  · rw [State.retire_mem]; exact congrArg (Memory.byte · b) (s.setFreg_mem ..)
  · rw [State.setFreg_frame]

/-- A store from an F register, where there are F registers (R326). -/
theorem stores_of_fpStore {len a : Word} {r : Reg} (h : FpOn s) (hz : s.cfg.zfinx = false) (hw : s.mem.wf = true)
    (hx : exec i s = fpStore len r a s) : Stores s i len a 4 (s.freg r) 0 0 :=
  stores_of_storeWord hw (by rw [hx, fpStore, ifFRegs_of_on h hz, if_pos (State.fpUsable_iff.2 h)]; rfl)

end

/-- Settles O43: each form is the load or the store at its address. -/
theorem floatLoadsAndStores : Obligations.FloatLoadsAndStores := by
  intro s r rs1 imm cd c1 u5 u6 h hz hw word loads a b c
  have hb : s.addrWords (1#2 ++ c1) u5 = b := s.addrWords_eq ..
  have hc : s.addrWords 2 u6 = c := s.addrWords_eq ..
  rw [← hb, ← hc]
  exact
    ⟨fun _ => State.loadByte_of_hasData,
      completes_fpLoad h hz rfl,
      completes_fpLoad h hz rfl,
      completes_fpLoad h hz rfl,
      stores_of_fpStore h hz hw rfl,
      stores_of_fpStore h hz hw rfl,
      stores_of_fpStore h hz hw rfl⟩

/-- Settles O44: under a mode that exists, each instruction delivers its result. -/
theorem floatRoundingInstructions : Obligations.FloatRoundingInstructions := by
  intro s rd r1 r2 r3 rm m h hm a b c neg
  have hr : s.rounding rm = some m := (s.rounding_eq rm).trans (roundingOf_legal hm)
  have hto : ∀ v, fpRounded rm rd v s = fpTo rd (v m) s := fun v => by unfold fpRounded; rw [hr]
  have hint : ∀ v, fpRoundedToInt rm rd v s = fpToInt rd (v m) s := fun v => by unfold fpRoundedToInt; rw [hr]
  exact
    ⟨fpGives_of_fpTo h (hto _) rfl,
      fpGives_of_fpTo h (hto _) rfl,
      fpGives_of_fpTo h (hto _) rfl,
      fpGives_of_fpTo h (hto _) rfl,
      fpGives_of_fpTo h (hto _) rfl,
      fpGives_of_fpTo h (hto _) rfl,
      fpGives_of_fpTo h (hto _) rfl,
      fpGives_of_fpTo h (hto _) rfl,
      fpGives_of_fpTo h (hto _) rfl,
      fpGives_of_fpTo h (hto _) rfl,
      fpGives_of_fpTo h (hto _) rfl,
      fpGivesInt_of_fpToInt h (hint _) rfl,
      fpGivesInt_of_fpToInt h (hint _) rfl⟩

end Sys2Proof.Machine
end

section
/-! SUPPORT. The patterns of binary32 (43 R320): the fields as arithmetic on the pattern's number, the classes of patterns, and the
instructions that move, compare and classify without rounding. -/

namespace Sys2Proof.Machine

/-! ### Fields -/

section
variable (w : Word)

theorem fExp_eq : fExp w = w.toNat / 2 ^ 23 % 2 ^ 8 := by
  rw [fExp, BitVec.extractLsb'_toNat, Nat.shiftRight_eq_div_pow]

theorem fFrac_eq : fFrac w = w.toNat % 2 ^ 23 := by
  rw [fFrac, BitVec.extractLsb'_toNat, Nat.shiftRight_zero]

theorem fSign_eq : fSign w = decide (2 ^ 31 ≤ w.toNat) := BitVec.msb_eq_decide w

theorem fExp_lt : fExp w < 256 := (w.extractLsb' 23 8).isLt

theorem fFrac_lt : fFrac w < 2 ^ 23 := (w.extractLsb' 0 23).isLt

/-- A pattern is its three fields (R320). -/
theorem toNat_eq_fields : w.toNat = (if fSign w then 2 ^ 31 else 0) + (fExp w * 2 ^ 23 + fFrac w) := by
  have hw := w.isLt
  rw [fExp_eq, fFrac_eq, fSign_eq]
  by_cases h : 2 ^ 31 ≤ w.toNat
  · rw [decide_eq_true h, if_pos rfl]; omega
  · rw [decide_eq_false h, if_neg Bool.false_ne_true]; omega

end

theorem eq_of_fields {a b : Word} (hs : fSign a = fSign b) (he : fExp a = fExp b) (hf : fFrac a = fFrac b) : a = b :=
  BitVec.eq_of_toNat_eq (by rw [toNat_eq_fields a, toNat_eq_fields b, hs, he, hf])

theorem eq_iff_fields {a b : Word} : a = b ↔ fSign a = fSign b ∧ fExp a = fExp b ∧ fFrac a = fFrac b :=
  ⟨fun h => h ▸ ⟨rfl, rfl, rfl⟩, fun ⟨hs, he, hf⟩ => eq_of_fields hs he hf⟩

/-! The classes of patterns, by their fields -/

section
variable {w : Word}

theorem isNaN_iff : isNaN w = true ↔ fExp w = 255 ∧ fFrac w ≠ 0 := by simp [isNaN]

theorem isInf_iff : isInf w = true ↔ fExp w = 255 ∧ fFrac w = 0 := by simp [isInf]

theorem isZero_iff : isZero w = true ↔ fExp w = 0 ∧ fFrac w = 0 := by simp [isZero]

theorem isFinite_iff : isFinite w = true ↔ fExp w ≠ 255 := by simp [isFinite]

theorem isNaN_of_isSNaN (h : isSNaN w = true) : isNaN w = true := (Bool.and_eq_true_iff.1 h).1

end

/-! ### Sign injection -/

theorem getLsbD_signBit : ∀ i < 32, (0x80000000 : Word).getLsbD i = decide (i = 31) := by decide

theorem getLsbD_magnitudeBits : ∀ i < 32, (0x7FFFFFFF : Word).getLsbD i = decide (i < 31) := by decide

/-- Replacing the sign bit is setting or clearing it (R336 to R338). -/
theorem injectSign_eq (neg : Bool) (w : Word) :
    injectSign neg w = if neg then w ||| 0x80000000 else w &&& 0x7FFFFFFF := by
  refine BitVec.eq_of_getLsbD_eq fun i hi => ?_
  have hlow : (injectSign neg w).getLsbD i = if i < 31 then w.getLsbD i else neg := by
    unfold injectSign
    rw [BitVec.getLsbD_append, BitVec.getLsbD_extractLsb']
    by_cases h : i < 31
    · simp [h]
    · obtain rfl : i = 31 := by omega
      cases neg <;> rfl
  rw [hlow]
  cases neg
  · rw [if_neg Bool.false_ne_true, BitVec.getLsbD_and, getLsbD_magnitudeBits i hi]
    by_cases h : i < 31 <;> simp [h]
  · rw [if_pos rfl, BitVec.getLsbD_or, getLsbD_signBit i hi]
    by_cases h : i < 31
    · rw [if_pos h, decide_eq_false (by omega), Bool.or_false]
    · rw [if_neg h, decide_eq_true (by omega), Bool.or_true]

/-! ### Order -/

/-- The magnitude bits, by a mask and by a cut. -/
theorem toNat_and_magnitude (w : Word) : (w &&& 0x7FFFFFFF).toNat = (w.extractLsb' 0 31).toNat := by
  rw [BitVec.extractLsb'_toNat, BitVec.toNat_and]
  exact Nat.and_two_pow_sub_one_eq_mod w.toNat 31

/-- The number that orders patterns, as the claim writes it. -/
theorem fKey_eq (w : Word) :
    fKey w = if w.getLsbD 31 then -((w &&& 0x7FFFFFFF).toNat : Int) else (w &&& 0x7FFFFFFF).toNat := by
  rw [toNat_and_magnitude]; rfl

theorem fBefore_iff {a b : Word} : fBefore a b = true ↔ fKey a < fKey b ∨ (fKey a = fKey b ∧ fSign a = true) := by
  simp [fBefore]

/-- The NaN rule of minimum and maximum (R339): `v` is what the claim says of it, the number `pick` apart. -/
theorem minMax_cases (pick a b : Word) : ∃ v, minMax pick a b = (v, if isSNaN a || isSNaN b then flagNV else 0) ∧
    (isNaN a = false ∧ isNaN b = false → v = pick) ∧ (isNaN a = true → isNaN b = false → v = b) ∧
    (isNaN a = false → isNaN b = true → v = a) ∧ (isNaN a = true → isNaN b = true → v = 0x7FC00000) := by
  refine ⟨_, rfl, ?_⟩
  cases isNaN a <;> cases isNaN b <;> simp [canonicalNaN]

/-- The lesser of two numbers, -0 before +0 (R339). -/
theorem lesser_spec {a b v : Word} (hv : v = if fBefore a b then a else b) :
    (v = a ∨ v = b) ∧ fKey v ≤ fKey a ∧ fKey v ≤ fKey b ∧
      (fKey a = fKey b → fSign a = true ∨ fSign b = true → fSign v = true) := by
  subst hv
  split
  next h =>
    rcases fBefore_iff.1 h with hlt | ⟨heq, hs⟩
    · exact ⟨.inl rfl, le_rfl, hlt.le, fun he => absurd he hlt.ne⟩
    · exact ⟨.inl rfl, le_rfl, heq.le, fun _ _ => hs⟩
  next h =>
    rw [fBefore_iff, not_or, not_and, not_lt] at h
    exact ⟨.inr rfl, h.1, le_rfl, fun he hs => hs.resolve_left (h.2 he)⟩

/-- The greater of two numbers, +0 after -0 (R340). -/
theorem greater_spec {a b v : Word} (hv : v = if fBefore a b then b else a) :
    (v = a ∨ v = b) ∧ fKey a ≤ fKey v ∧ fKey b ≤ fKey v ∧
      (fKey a = fKey b → fSign a = false ∨ fSign b = false → fSign v = false) := by
  subst hv
  split
  next h =>
    rcases fBefore_iff.1 h with hlt | ⟨heq, hs⟩
    · exact ⟨.inr rfl, hlt.le, le_rfl, fun he => absurd he hlt.ne⟩
    · exact ⟨.inr rfl, heq.le, le_rfl, fun _ h0 => h0.resolve_left (by simp [hs])⟩
  next h =>
    rw [fBefore_iff, not_or, not_and, not_lt] at h
    exact ⟨.inl rfl, le_rfl, h.1, fun he _ => Bool.eq_false_iff.2 (h.2 he)⟩

theorem boolWord_decide (p : Prop) [Decidable p] : boolWord (decide p) = if p then 1 else 0 := by
  simp [boolWord]

/-- Comparisons of numbers (R344 to R346). -/
theorem compare_of_num {a b : Word} (h : isNaN a = false ∧ isNaN b = false) :
    fEq a b = (if fKey a = fKey b then 1 else 0, 0) ∧ fLt a b = (if fKey a < fKey b then 1 else 0, 0) ∧
      fLe a b = (if fKey a ≤ fKey b then 1 else 0, 0) := by
  have hno : ¬ (isNaN a || isNaN b) = true := by simp [h]
  simp only [fEq, fLt, fLe, if_neg hno, boolWord_decide, beq_eq_decide, and_self]

/-- Comparisons with a NaN (R344 to R346). -/
theorem compare_of_nan {a b : Word} (h : ¬ (isNaN a = false ∧ isNaN b = false)) :
    fEq a b = (0, if isSNaN a || isSNaN b then flagNV else 0) ∧ fLt a b = (0, flagNV) ∧ fLe a b = (0, flagNV) := by
  have hnan : (isNaN a || isNaN b) = true := by
    rwa [← Bool.or_eq_false_iff, Bool.not_eq_false] at h
  exact ⟨if_pos hnan, if_pos hnan, if_pos hnan⟩

/-! ### Classification -/

/-- The ten classes (R347): the class of a pattern is a power of two, and the exponent says which patterns it holds. -/
theorem fClass_spec (a : Word) : ∃ k : Fin 10, fClass a = BitVec.ofNat 32 (2 ^ k.val) ∧
    (k.val = 9 ↔ isNaN a = true ∧ isSNaN a = false) ∧ (k.val = 8 ↔ isSNaN a = true) ∧
    (k.val = 0 ↔ a = 0xFF800000) ∧ (k.val = 7 ↔ a = 0x7F800000) ∧ (k.val = 3 ↔ a = 0x80000000) ∧ (k.val = 4 ↔ a = 0) ∧
    (k.val = 1 ∨ k.val = 2 → a.getLsbD 31 = true) ∧ (k.val = 5 ∨ k.val = 6 → a.getLsbD 31 = false) ∧
    (k.val = 2 ∨ k.val = 5 → a.extractLsb' 23 8 = 0) ∧ (k.val = 1 ∨ k.val = 6 → a.extractLsb' 23 8 ≠ 0) := by
  have hninf : a = 0xFF800000 ↔ fSign a = true ∧ fExp a = 255 ∧ fFrac a = 0 := eq_iff_fields
  have hinf : a = 0x7F800000 ↔ fSign a = false ∧ fExp a = 255 ∧ fFrac a = 0 := eq_iff_fields
  have hnzero : a = 0x80000000 ↔ fSign a = true ∧ fExp a = 0 ∧ fFrac a = 0 := eq_iff_fields
  have hzero : a = 0 ↔ fSign a = false ∧ fExp a = 0 ∧ fFrac a = 0 := eq_iff_fields
  have hsub : a.extractLsb' 23 8 = 0 ↔ fExp a = 0 := BitVec.toNat_inj.symm
  have hsn : isSNaN a = true → isNaN a = true := isNaN_of_isSNaN
  have hs : a.getLsbD 31 = fSign a := rfl
  rw [hninf, hinf, hnzero, hzero, Ne, hsub, hs]
  clear hninf hinf hnzero hzero hsub hs
  unfold fClass
  by_cases hnan : isNaN a = true
  · obtain ⟨he, hf⟩ := isNaN_iff.1 hnan
    cases hq : isSNaN a
    · exact ⟨9, by simp [hnan, he, hf]⟩
    · exact ⟨8, by simp [hnan, he, hf]⟩
  have hq : isSNaN a = false := Bool.eq_false_iff.2 fun h => hnan (hsn h)
  rw [Bool.not_eq_true] at hnan
  by_cases hinf : isInf a = true
  · obtain ⟨he, hf⟩ := isInf_iff.1 hinf
    cases hs : fSign a
    · exact ⟨7, by simp [hnan, hq, hinf, he, hf]⟩
    · exact ⟨0, by simp [hnan, hq, hinf, he, hf]⟩
  by_cases hzero : isZero a = true
  · obtain ⟨he, hf⟩ := isZero_iff.1 hzero
    cases hs : fSign a
    · exact ⟨4, by simp [hnan, hq, hinf, hzero, he, hf]⟩
    · exact ⟨3, by simp [hnan, hq, hinf, hzero, he, hf]⟩
  have hfin : fExp a = 255 → fFrac a ≠ 0 := fun he hf => hinf (isInf_iff.2 ⟨he, hf⟩)
  have hnz : fExp a = 0 → fFrac a ≠ 0 := fun he hf => hzero (isZero_iff.2 ⟨he, hf⟩)
  by_cases he : fExp a = 0
  · cases hs : fSign a
    · exact ⟨5, by simp [hnan, hq, hinf, hzero, he, hnz he]⟩
    · exact ⟨2, by simp [hnan, hq, hinf, hzero, he, hnz he]⟩
  · cases hs : fSign a
    · exact ⟨6, by simpa [hnan, hq, hinf, hzero, he] using hfin⟩
    · exact ⟨1, by simpa [hnan, hq, hinf, hzero, he] using hfin⟩

/-- Settles O45: the result of each instruction is the one that the claim writes. -/
theorem floatExactInstructions : Obligations.FloatExactInstructions := by
  intro s rd r1 r2 h a b num inj nv order
  have hinj : ∀ p : Bool, (injectSign p a, (0 : BitVec 5)) = inj p := fun p => by rw [injectSign_eq]
  have hord : ∀ w, order w = fKey w := fun w => (fKey_eq w).symm
  simp only [hord]
  have hxor : (fSign a != fSign b) = (a.getLsbD 31 ^^ b.getLsbD 31) := rfl
  refine
    ⟨fpGives_of_fpTo h rfl (hinj _), fpGives_of_fpTo h rfl (hinj _), fpGives_of_fpTo h rfl (hxor ▸ hinj _), ?_, ?_,
      fun hn => ?_, fun hn => ?_, ?_,
      fun hz => ⟨fpGivesInt_of_fpToInt h (ifFRegs_of_on h hz _) rfl, fpGives_of_fpTo h (ifFRegs_of_on h hz _) rfl⟩⟩
  · -- fmin.s
    obtain ⟨v, hv, hnum, hnan⟩ := minMax_cases (if fBefore a b then a else b) a b
    exact ⟨v, fpGives_of_fpTo h rfl hv, fun hn => lesser_spec (hnum hn), hnan⟩
  · -- fmax.s
    obtain ⟨v, hv, hnum, hnan⟩ := minMax_cases (if fBefore a b then b else a) a b
    exact ⟨v, fpGives_of_fpTo h rfl hv, fun hn => greater_spec (hnum hn), hnan⟩
  · obtain ⟨heq, hlt, hle⟩ := compare_of_num hn
    exact ⟨fpGivesInt_of_fpToInt h rfl heq, fpGivesInt_of_fpToInt h rfl hlt, fpGivesInt_of_fpToInt h rfl hle⟩
  · obtain ⟨heq, hlt, hle⟩ := compare_of_nan hn
    exact ⟨fpGivesInt_of_fpToInt h rfl heq, fpGivesInt_of_fpToInt h rfl hlt, fpGivesInt_of_fpToInt h rfl hle⟩
  · -- fclass.s
    obtain ⟨k, hk, hclass⟩ := fClass_spec a
    exact ⟨k, fpGivesInt_of_fpToInt h rfl (by rw [← hk]), hclass⟩

end Sys2Proof.Machine
end

section
/-! SUPPORT. The numbers of binary32 (43 R320): what a finite pattern stands for, exact sums and products, and the operands that
need no rounding (R321, R327, R331, R333 to R335). -/

namespace Sys2Proof.Machine

/-! ### Values of patterns -/

/-- The factor that a sign bit stands for. -/
def signFactor (neg : Bool) : ℚ := if neg then -1 else 1

@[simp] theorem signFactor_true : signFactor true = -1 := rfl

@[simp] theorem signFactor_false : signFactor false = 1 := rfl

theorem signFactor_bne (p q : Bool) : signFactor (p != q) = signFactor p * signFactor q := by
  cases p <;> cases q <;> norm_num [signFactor]

theorem abs_signFactor_mul (neg : Bool) (x : ℚ) : |signFactor neg * x| = |x| := by
  cases neg <;> simp

theorem signFactor_mul_eq_zero {neg : Bool} {x : ℚ} : signFactor neg * x = 0 ↔ x = 0 := by
  cases neg <;> simp

/-- 2 as a rational number has powers of every integer exponent. -/
theorem two_zpow_pos (e : ℤ) : (0 : ℚ) < 2 ^ e := zpow_pos (by norm_num) e

theorem two_zpow_add (p q : ℤ) : (2 : ℚ) ^ (p + q) = 2 ^ p * 2 ^ q := zpow_add₀ (by norm_num) p q

theorem two_zpow_natCast (d : ℕ) : (2 : ℚ) ^ (d : ℤ) = ((2 ^ d : ℕ) : ℚ) := by
  rw [zpow_natCast]; push_cast; rfl

section
variable {w : Word}

theorem fValue_eq (w : Word) : fValue w = signFactor (fSign w) * ((fMant w : ℚ) * 2 ^ fPow w) := mul_assoc ..

theorem abs_fValue (w : Word) : |fValue w| = (fMant w : ℚ) * 2 ^ fPow w := by
  rw [fValue_eq, abs_signFactor_mul]
  exact abs_of_nonneg (mul_nonneg (Nat.cast_nonneg _) (two_zpow_pos _).le)

theorem fMant_lt (w : Word) : fMant w < 2 ^ 24 := by
  have h := fFrac_lt w
  unfold fMant
  split <;> omega

theorem fPow_ge (w : Word) : -149 ≤ fPow w := by
  unfold fPow
  split <;> omega

theorem fPow_le (h : isFinite w = true) : fPow w ≤ 104 := by
  have he := isFinite_iff.1 h
  have hl := fExp_lt w
  unfold fPow
  split <;> omega

theorem fMant_eq_zero_iff : fMant w = 0 ↔ isZero w = true := by
  rw [isZero_iff]
  unfold fMant
  split <;> simp_all

theorem fValue_eq_zero_iff : fValue w = 0 ↔ isZero w = true := by
  rw [fValue_eq, signFactor_mul_eq_zero, mul_eq_zero, or_iff_left (two_zpow_pos _).ne', Nat.cast_eq_zero, fMant_eq_zero_iff]

/-! The classes exclude each other -/

theorem isNaN_false_of_isInf (h : isInf w = true) : isNaN w = false := by
  simp [isNaN, (isInf_iff.1 h).2]

theorem isZero_false_of_isInf (h : isInf w = true) : isZero w = false := by
  simp [isZero, (isInf_iff.1 h).1]

theorem isNaN_false_of_isFinite (h : isFinite w = true) : isNaN w = false := by
  simp [isNaN, isFinite_iff.1 h]

theorem isInf_false_of_isFinite (h : isFinite w = true) : isInf w = false := by
  simp [isInf, isFinite_iff.1 h]

theorem isFinite_of_isZero (h : isZero w = true) : isFinite w = true := by
  simp [isFinite, (isZero_iff.1 h).1]

theorem isInf_false_of_isZero (h : isZero w = true) : isInf w = false := isInf_false_of_isFinite (isFinite_of_isZero h)

theorem isFinite_of_not (hn : isNaN w = false) (hi : isInf w = false) : isFinite w = true := by
  rw [isFinite_iff]
  intro he
  rw [← Bool.not_eq_true, isNaN_iff] at hn
  rw [← Bool.not_eq_true, isInf_iff] at hi
  by_cases hf : fFrac w = 0
  · exact hi ⟨he, hf⟩
  · exact hn ⟨he, hf⟩

end

/-! The sign bit flipped (R328 to R330, R332) -/

theorem fNeg_fields (w : Word) : fSign (fNeg w) = !fSign w ∧ fExp (fNeg w) = fExp w ∧ fFrac (fNeg w) = fFrac w := by
  refine ⟨by simp [fSign, fNeg], ?_, ?_⟩
  · rw [fExp, fNeg, BitVec.extractLsb'_xor, show (0x80000000 : Word).extractLsb' 23 8 = 0 from rfl]
    exact congrArg BitVec.toNat BitVec.xor_zero
  · rw [fFrac, fNeg, BitVec.extractLsb'_xor, show (0x80000000 : Word).extractLsb' 0 23 = 0 from rfl]
    exact congrArg BitVec.toNat BitVec.xor_zero

theorem fValue_fNeg (w : Word) : fValue (fNeg w) = -fValue w := by
  obtain ⟨hs, he, hf⟩ := fNeg_fields w
  have hm : fMant (fNeg w) = fMant w := by unfold fMant; rw [he, hf]
  have hp : fPow (fNeg w) = fPow w := by unfold fPow; rw [he]
  rw [fValue_eq, fValue_eq, hs, hm, hp]
  cases fSign w <;> simp

theorem isFinite_fNeg (w : Word) : isFinite (fNeg w) = isFinite w := by
  unfold isFinite; rw [(fNeg_fields w).2.1]

/-! ### Exact sums and products -/

/-- A term of a sum, as a multiple of a power that is not above its own. -/
theorem signedAt_value (neg : Bool) (m : ℕ) {p e : ℤ} (h : e ≤ p) :
    (signedAt neg m p e : ℚ) * 2 ^ e = signFactor neg * ((m : ℚ) * 2 ^ p) := by
  obtain ⟨d, rfl⟩ := Int.le.dest h
  have hd : (e + d - e).toNat = d := by omega
  have hv : ((m <<< d : ℕ) : ℚ) * 2 ^ e = (m : ℚ) * 2 ^ (e + d) := by
    rw [Nat.shiftLeft_eq, two_zpow_add, two_zpow_natCast]
    push_cast
    ring
  rw [← hv]
  unfold signedAt
  rw [hd]
  have hc : (((m <<< d : ℕ) : ℤ) : ℚ) = ((m <<< d : ℕ) : ℚ) := Int.cast_natCast _
  cases neg
  · show (((m <<< d : ℕ) : ℤ) : ℚ) * 2 ^ e = 1 * _
    rw [hc, one_mul]
  · show ((-((m <<< d : ℕ) : ℤ) : ℤ) : ℚ) * 2 ^ e = -1 * _
    rw [Int.cast_neg, hc, neg_mul, neg_one_mul]

/-- The sum of two finite numbers is added exactly, then rounded once (R331). -/
theorem fAdd_of_finite {a b : Word} (ha : isFinite a = true) (hb : isFinite b = true) (m : Rounding) :
    ∃ v e : ℤ, (v : ℚ) * 2 ^ e = fValue a + fValue b ∧ fAdd m a b = roundSum m (fSign a) (fSign b) v e := by
  let e := min (fPow a) (fPow b)
  refine ⟨signedAt (fSign a) (fMant a) (fPow a) e + signedAt (fSign b) (fMant b) (fPow b) e, e, ?_, ?_⟩
  · push_cast
    rw [add_mul, signedAt_value _ _ (min_le_left ..), signedAt_value _ _ (min_le_right ..), fValue_eq, fValue_eq]
  · simp only [fAdd, isNaN_false_of_isFinite ha, isNaN_false_of_isFinite hb, isInf_false_of_isFinite ha,
      isInf_false_of_isFinite hb, Bool.or_self, Bool.false_eq_true, if_false]
    rfl

/-- The product of two finite numbers is exact (R333). -/
theorem fValue_mul (a b : Word) :
    fValue a * fValue b = signFactor (fSign a != fSign b) * ((fMant a * fMant b : ℕ) * 2 ^ (fPow a + fPow b)) := by
  rw [fValue_eq, fValue_eq, signFactor_bne, two_zpow_add]
  push_cast
  ring

/-- A fused product of finite numbers is added exactly, then rounded once (R327). -/
theorem fMulAdd_of_finite {a b c : Word} (ha : isFinite a = true) (hb : isFinite b = true) (hc : isFinite c = true)
    (m : Rounding) : ∃ v e : ℤ, (v : ℚ) * 2 ^ e = fValue a * fValue b + fValue c ∧
      fMulAdd m a b c = roundSum m (fSign a != fSign b) (fSign c) v e := by
  let e := min (fPow a + fPow b) (fPow c)
  refine ⟨signedAt (fSign a != fSign b) (fMant a * fMant b) (fPow a + fPow b) e + signedAt (fSign c) (fMant c) (fPow c) e, e,
    ?_, ?_⟩
  · push_cast
    rw [add_mul, signedAt_value _ _ (min_le_left ..), signedAt_value _ _ (min_le_right ..), fValue_mul, fValue_eq c]
  · simp only [fMulAdd, isNaN_false_of_isFinite ha, isNaN_false_of_isFinite hb, isNaN_false_of_isFinite hc,
      isInf_false_of_isFinite ha, isInf_false_of_isFinite hb, isInf_false_of_isFinite hc, Bool.or_self, Bool.false_and,
      Bool.and_false, Bool.false_eq_true, if_false]
    rfl

/-- The product of two finite numbers that are not zero is rounded once (R333). -/
theorem fMul_of_finite {a b : Word} (ha : isFinite a = true) (hb : isFinite b = true) (hza : isZero a = false)
    (hzb : isZero b = false) (m : Rounding) :
    fMul m a b = roundF32 m (fSign a != fSign b) (fMant a * fMant b) (fPow a + fPow b) := by
  simp only [fMul, isNaN_false_of_isFinite ha, isNaN_false_of_isFinite hb, isInf_false_of_isFinite ha,
    isInf_false_of_isFinite hb, hza, hzb, Bool.or_self, Bool.and_false, Bool.false_eq_true, if_false]

/-! ### Operands that need no rounding -/

/-- The result of an operation with a NaN operand or, where `p` says so, of an invalid one (R321). -/
def nanResult (p : Bool) : FpResult := (canonicalNaN, nanFlag p)

theorem infinity_eq (neg : Bool) : infinity neg = if neg then 0xFF800000 else 0x7F800000 := by cases neg <;> rfl

theorem zero_eq (neg : Bool) : zero neg = if neg then 0x80000000 else 0 := by cases neg <;> rfl

section
variable {m : Rounding} {a b c : Word}

/-- An exact zero sum (R331). -/
theorem roundSum_of_zero {negX negY : Bool} {v e : ℤ} (h : (v : ℚ) * 2 ^ e = 0) :
    roundSum m negX negY v e = (zero (if negX = negY then negX else decide (m = .rdn)), 0) := by
  rw [mul_eq_zero, or_iff_left (two_zpow_pos e).ne', Int.cast_eq_zero] at h
  rw [roundSum, if_pos h]
  rfl

theorem fAdd_of_nan (h : isNaN a = true ∨ isNaN b = true) : fAdd m a b = nanResult (isSNaN a || isSNaN b) :=
  if_pos (Bool.or_eq_true_iff.2 h)

theorem fMul_of_nan (h : isNaN a = true ∨ isNaN b = true) : fMul m a b = nanResult (isSNaN a || isSNaN b) :=
  if_pos (Bool.or_eq_true_iff.2 h)

theorem fDiv_of_nan (h : isNaN a = true ∨ isNaN b = true) : fDiv m a b = nanResult (isSNaN a || isSNaN b) :=
  if_pos (Bool.or_eq_true_iff.2 h)

/-- Infinity times zero (R327, R333). -/
def TimesInvalid (a b : Word) : Prop := (isInf a = true ∧ isZero b = true) ∨ (isZero a = true ∧ isInf b = true)

theorem timesInvalid_iff : ((isInf a && isZero b) || (isZero a && isInf b)) = true ↔ TimesInvalid a b := by
  simp [TimesInvalid]

theorem fMulAdd_of_timesInvalid (h : TimesInvalid a b) : fMulAdd m a b c = nanResult true :=
  if_pos (timesInvalid_iff.2 h)

theorem fMul_of_timesInvalid (h : TimesInvalid a b) : fMul m a b = nanResult true := by
  have hn : ¬ (isNaN a || isNaN b) = true := by
    rcases h with ⟨ha, hb⟩ | ⟨ha, hb⟩
    · simp [isNaN_false_of_isInf ha, isNaN_false_of_isFinite (isFinite_of_isZero hb)]
    · simp [isNaN_false_of_isInf hb, isNaN_false_of_isFinite (isFinite_of_isZero ha)]
  exact (if_neg hn).trans (if_pos (timesInvalid_iff.2 h))

theorem fMulAdd_of_nan (h : ¬ TimesInvalid a b) (hn : isNaN a = true ∨ isNaN b = true ∨ isNaN c = true) :
    fMulAdd m a b c = nanResult (isSNaN a || isSNaN b || isSNaN c) :=
  (if_neg (mt timesInvalid_iff.1 h)).trans (if_pos (by simpa [or_assoc] using hn))

/-- An infinite factor (R333). -/
theorem fMul_of_inf (ha : isNaN a = false) (hb : isNaN b = false) (h : ¬ TimesInvalid a b)
    (hi : isInf a = true ∨ isInf b = true) : fMul m a b = (infinity (fSign a != fSign b), 0) :=
  (if_neg (by simp [ha, hb])).trans ((if_neg (mt timesInvalid_iff.1 h)).trans (if_pos (by simpa using hi)))

/-- An infinite factor of a fused product (R327). -/
theorem fMulAdd_of_inf (ha : isNaN a = false) (hb : isNaN b = false) (hc : isNaN c = false) (h : ¬ TimesInvalid a b)
    (hi : isInf a = true ∨ isInf b = true) : fMulAdd m a b c =
      if isInf c && fSign c != (fSign a != fSign b) then nanResult true else (infinity (fSign a != fSign b), 0) :=
  (if_neg (mt timesInvalid_iff.1 h)).trans ((if_neg (by simp [ha, hb, hc])).trans (if_pos (by simpa using hi)))

/-- An infinite addend of a finite product (R327). -/
theorem fMulAdd_of_inf_addend (ha : isFinite a = true) (hb : isFinite b = true) (hc : isInf c = true) :
    fMulAdd m a b c = (c, 0) := by
  simp [fMulAdd, isNaN_false_of_isFinite ha, isNaN_false_of_isFinite hb, isNaN_false_of_isInf hc,
    isInf_false_of_isFinite ha, isInf_false_of_isFinite hb, hc]

/-- A product that is zero (R333). -/
theorem fMul_of_zero (ha : isFinite a = true) (hb : isFinite b = true) (h : fValue a * fValue b = 0) :
    fMul m a b = (zero (fSign a != fSign b), 0) := by
  rw [mul_eq_zero, fValue_eq_zero_iff, fValue_eq_zero_iff] at h
  simp [fMul, isNaN_false_of_isFinite ha, isNaN_false_of_isFinite hb, isInf_false_of_isFinite ha,
    isInf_false_of_isFinite hb, h]

/-- Infinite terms of a sum (R331). -/
theorem fAdd_of_inf (ha : isNaN a = false) (hb : isNaN b = false) :
    (isInf a = true → isInf b = true → fSign a ≠ fSign b → fAdd m a b = nanResult true) ∧
    (isInf a = true → ¬ (isInf b = true ∧ fSign a ≠ fSign b) → fAdd m a b = (a, 0)) ∧
    (isInf a = false → isInf b = true → fAdd m a b = (b, 0)) := by
  have hn : ¬ (isNaN a || isNaN b) = true := by simp [ha, hb]
  unfold fAdd
  rw [if_neg hn]
  refine ⟨fun hia hib hs => ?_, fun hia h => ?_, fun hia hib => ?_⟩
  · rw [if_pos hia, if_pos (by simp [hib, hs])]; rfl
  · rw [if_pos hia, if_neg (by simpa using h)]
  · rw [if_neg (by simp [hia]), if_pos hib]

/-- Quotients that need no rounding (R334). -/
theorem fDiv_special (ha : isNaN a = false) (hb : isNaN b = false) :
    (isInf a = true → isInf b = true → fDiv m a b = nanResult true) ∧
    (isZero a = true → isZero b = true → fDiv m a b = nanResult true) ∧
    (isInf a = true → isInf b = false → fDiv m a b = (infinity (fSign a != fSign b), 0)) ∧
    (isFinite a = true → isZero a = false → isZero b = true → fDiv m a b = (infinity (fSign a != fSign b), flagDZ)) ∧
    (isFinite a = true → isInf b = true → fDiv m a b = (zero (fSign a != fSign b), 0)) ∧
    (isZero a = true → isFinite b = true → isZero b = false → fDiv m a b = (zero (fSign a != fSign b), 0)) := by
  have hn : ¬ (isNaN a || isNaN b) = true := by simp [ha, hb]
  unfold fDiv
  simp only [if_neg hn]
  refine ⟨fun hia hib => ?_, fun hza hzb => ?_, fun hia hib => ?_, fun hfa hza hzb => ?_, fun hfa hib => ?_,
    fun hza hfb hzb => ?_⟩
  · rw [if_pos (by simp [hia, hib])]; rfl
  · rw [if_pos (by simp [hza, hzb])]; rfl
  · rw [if_neg (by simp [hib, isZero_false_of_isInf hia]), if_pos hia]
  · rw [if_neg (by simp [hza, isInf_false_of_isFinite hfa]), if_neg (by simp [isInf_false_of_isFinite hfa]), if_pos hzb]
  · rw [if_neg (by simp [isInf_false_of_isFinite hfa, isZero_false_of_isInf hib]), if_neg (by simp [isInf_false_of_isFinite hfa]),
      if_neg (by simp [isZero_false_of_isInf hib]), if_pos (by simp [hib])]
  · rw [if_neg (by simp [hzb, isInf_false_of_isFinite hfb]), if_neg (by simp [isInf_false_of_isZero hza]),
      if_neg (by simp [hzb]), if_pos (by simp [hza])]

/-- Roots that need no rounding (R335). -/
theorem fSqrt_special (ha : isNaN a = false) :
    (isZero a = true → fSqrt m a = (a, 0)) ∧ (fSign a = true → isZero a = false → fSqrt m a = nanResult true) ∧
    (a = 0x7F800000 → fSqrt m a = (a, 0)) := by
  unfold fSqrt
  rw [if_neg (by simp [ha])]
  refine ⟨fun hz => if_pos hz, fun hs hz => ?_, fun hi => ?_⟩
  · rw [if_neg (by simp [hz]), if_pos hs]; rfl
  · rw [hi]; rfl

end

/-- Settles O48: the operations on the operands that each clause names. -/
theorem floatSpecialOperands : Obligations.FloatSpecialOperands := by
  intro m a b c nan inf zer sa sb sc timesInvalid
  have hinf : ∀ p, inf p = infinity p := fun p => (infinity_eq p).symm
  have hzer : ∀ p, zer p = zero p := fun p => (zero_eq p).symm
  have hadd : isFinite a = true → isFinite b = true → fValue a + fValue b = 0 →
      fAdd m a b = (zero (if sa = sb then sa else decide (m = .rdn)), 0) := fun ha hb h => by
    obtain ⟨v, e, hv, heq⟩ := fAdd_of_finite ha hb m
    exact heq.trans (roundSum_of_zero (hv.trans h))
  have hfma : isFinite a = true → isFinite b = true → isFinite c = true → fValue a * fValue b + fValue c = 0 →
      fMulAdd m a b c = (zero (if (sa ^^ sb) = sc then sc else decide (m = .rdn)), 0) := fun ha hb hc h => by
    obtain ⟨v, e, hv, heq⟩ := fMulAdd_of_finite ha hb hc m
    rw [heq, roundSum_of_zero (hv.trans h)]
    exact congrArg (fun p => (zero p, _)) (ite_congr rfl (fun hs => hs) fun _ => rfl)
  simp only [hinf, hzer]
  refine ⟨fun h => ⟨fAdd_of_nan h, fMul_of_nan h, fDiv_of_nan h⟩, fun h => if_pos h,
    fun h => ⟨fMulAdd_of_timesInvalid h, fMul_of_timesInvalid h⟩, fMulAdd_of_nan, fun ha hb => ?_, rfl⟩
  obtain ⟨hopposite, hleft, hright⟩ := fAdd_of_inf (m := m) ha hb
  obtain ⟨hii, hzz, hi, hz, hdi, hdz⟩ := fDiv_special (m := m) ha hb
  exact ⟨hopposite, hleft, hright, hadd, fun h hi => ⟨fMul_of_inf ha hb h hi, fun hc => fMulAdd_of_inf ha hb hc h hi⟩,
    fMulAdd_of_inf_addend, hfma, fMul_of_zero, hii, hzz, hi, hz, hdi, hdz, fSqrt_special ha⟩

end Sys2Proof.Machine
end

section
/-! SUPPORT. One rounding to an integer (43 R323), said of rational numbers: what `roundAt` answers, and conversion to an integer
(R341, R342). -/

namespace Sys2Proof.Machine

/-! ### Rounding a magnitude to a natural number -/

/-- Is a magnitude `n` + `f`, with 0 ≤ `f` < 1, rounded to `n` + 1? -/
def goesUp (rm : Rounding) (neg : Bool) (n : ℕ) (f : ℚ) : Bool :=
  match rm with
  | .rne => decide (1 / 2 < f) || (decide (f = 1 / 2) && n % 2 == 1)
  | .rtz => false
  | .rdn => neg && decide (f ≠ 0)
  | .rup => !neg && decide (f ≠ 0)
  | .rmm => decide (1 / 2 ≤ f)

/-- The magnitude `t` rounded to a natural number. -/
def roundNat (rm : Rounding) (neg : Bool) (t : ℚ) : ℕ :=
  if goesUp rm neg ⌊t⌋₊ (t - ⌊t⌋₊) then ⌊t⌋₊ + 1 else ⌊t⌋₊

section
variable {rm : Rounding} {neg : Bool}

/-- The model's test for rounding up, on the remainder of a division by 2 ^ `d`. -/
theorem roundsUp_eq (rm : Rounding) (neg : Bool) (q r d : ℕ) :
    roundsUp rm neg q r d = goesUp rm neg q ((r : ℚ) / (2 ^ d : ℕ)) := by
  have hd : (0 : ℚ) < (2 ^ d : ℕ) := Nat.cast_pos.2 (by positivity)
  have hlt : (1 : ℚ) / 2 < r / (2 ^ d : ℕ) ↔ 2 ^ d < 2 * r := by
    rw [div_lt_div_iff₀ two_pos hd]; norm_cast; rw [one_mul, mul_comm]
  have heq : (r : ℚ) / (2 ^ d : ℕ) = 1 / 2 ↔ 2 * r = 2 ^ d := by
    rw [div_eq_div_iff hd.ne' two_ne_zero]; norm_cast; rw [one_mul, mul_comm]
  have hzero : (r : ℚ) / (2 ^ d : ℕ) ≠ 0 ↔ r ≠ 0 := by
    rw [Ne, div_eq_zero_iff, or_iff_left hd.ne', Nat.cast_eq_zero]
  have hle : (1 : ℚ) / 2 ≤ r / (2 ^ d : ℕ) ↔ 2 ^ d ≤ 2 * r := by
    rw [le_iff_lt_or_eq, hlt, eq_comm, heq]; omega
  unfold roundsUp goesUp
  cases rm with
  | rne => simp only [hlt, heq, beq_eq_decide, gt_iff_lt]
  | rtz => rfl
  | rdn => simp only [hzero, bne, beq_eq_decide, ne_eq, decide_not]
  | rup => simp only [hzero, bne, beq_eq_decide, ne_eq, decide_not]
  | rmm =>
    have hpos : 0 < 2 ^ d := by positivity
    simp only [hle, bne, beq_eq_decide, ge_iff_le, ← decide_not, ← Bool.decide_and]
    exact decide_eq_decide.2 (by omega)

/-- A natural number stays as it is. -/
theorem roundNat_natCast (rm : Rounding) (neg : Bool) (n : ℕ) : roundNat rm neg n = n := by
  unfold roundNat
  rw [Nat.floor_natCast, sub_self]
  cases rm <;> simp [goesUp]

/-- What rounding at a power of two comes to: the rounded quotient, and whether there was a fraction. -/
theorem roundAt_eq (rm : Rounding) (neg : Bool) (m : ℕ) (e q : ℤ) :
    roundAt rm neg m e q =
      (roundNat rm neg ((m : ℚ) * 2 ^ (e - q)), decide ((m : ℚ) * 2 ^ (e - q) ≠ ⌊(m : ℚ) * 2 ^ (e - q)⌋₊)) := by
  unfold roundAt
  split
  next h =>
    obtain ⟨d, rfl⟩ := Int.le.dest h
    have ht : (m : ℚ) * 2 ^ (q + d - q) = ((m <<< d : ℕ) : ℚ) := by
      rw [add_sub_cancel_left, two_zpow_natCast, Nat.shiftLeft_eq]
      push_cast
      rfl
    rw [ht, roundNat_natCast, Nat.floor_natCast, add_sub_cancel_left, Int.toNat_natCast]
    simp
  next h =>
    obtain ⟨d, hd⟩ := Int.le.dest (not_le.1 h).le
    have ht : (m : ℚ) * 2 ^ (e - q) = (m : ℚ) / (2 ^ d : ℕ) := by
      rw [← two_zpow_natCast, div_eq_mul_inv, ← zpow_neg]
      congr 2
      omega
    have hdpos : (0 : ℚ) < (2 ^ d : ℕ) := Nat.cast_pos.2 (by positivity)
    have hfloor : ⌊(m : ℚ) / (2 ^ d : ℕ)⌋₊ = m >>> d := by rw [Nat.floor_div_eq_div, Nat.shiftRight_eq_div_pow]
    have hfrac : (m : ℚ) / (2 ^ d : ℕ) - (m >>> d : ℕ) = ((m % 2 ^ d : ℕ) : ℚ) / (2 ^ d : ℕ) := by
      rw [eq_div_iff hdpos.ne', sub_mul, div_mul_cancel₀ _ hdpos.ne', Nat.shiftRight_eq_div_pow, sub_eq_iff_eq_add]
      exact_mod_cast (Nat.mod_add_div' m (2 ^ d)).symm
    have hexact : (m : ℚ) / (2 ^ d : ℕ) ≠ (m >>> d : ℕ) ↔ m % 2 ^ d ≠ 0 := by
      rw [← sub_ne_zero, hfrac, Ne, div_eq_zero_iff, or_iff_left hdpos.ne', Nat.cast_eq_zero]
    rw [show (q - e).toNat = d by omega, ht, roundNat, hfloor, hfrac, ← roundsUp_eq,
      show decide ((m : ℚ) / (2 ^ d : ℕ) ≠ (m >>> d : ℕ)) = decide (m % 2 ^ d ≠ 0) from decide_eq_decide.2 hexact]
    simp [roundShift, bne, beq_eq_decide]

variable {t : ℚ}

theorem floor_le_roundNat : ⌊t⌋₊ ≤ roundNat rm neg t := by
  unfold roundNat; split <;> omega

theorem roundNat_le_floor_add_one : roundNat rm neg t ≤ ⌊t⌋₊ + 1 := by
  unfold roundNat; split <;> omega

/-- Rounding changes nothing exactly where there is no fraction. -/
theorem roundNat_eq_iff : (roundNat rm neg t : ℚ) = t ↔ t = ⌊t⌋₊ := by
  constructor
  · intro h
    rw [← h, Nat.floor_natCast]
  · intro h
    rw [h, roundNat_natCast, ← h]

/-- The modes that cut a magnitude (R323). -/
def CutsOff (rm : Rounding) (neg : Bool) : Prop := rm = .rtz ∨ (rm = .rdn ∧ neg = false) ∨ (rm = .rup ∧ neg = true)

/-- The modes that round a magnitude up (R323). -/
def RoundsAway (rm : Rounding) (neg : Bool) : Prop := (rm = .rdn ∧ neg = true) ∨ (rm = .rup ∧ neg = false)

theorem roundNat_of_cutsOff (h : CutsOff rm neg) : roundNat rm neg t = ⌊t⌋₊ := by
  rcases h with rfl | ⟨rfl, rfl⟩ | ⟨rfl, rfl⟩ <;> rfl

theorem roundNat_of_roundsAway (h : RoundsAway rm neg) (ht : 0 ≤ t) : roundNat rm neg t = ⌈t⌉₊ := by
  have hup : goesUp rm neg ⌊t⌋₊ (t - ⌊t⌋₊) = decide (t - ⌊t⌋₊ ≠ 0) := by
    rcases h with ⟨rfl, rfl⟩ | ⟨rfl, rfl⟩ <;> exact Bool.true_and _
  rw [roundNat, hup]
  by_cases hx : t = ⌊t⌋₊
  · rw [if_neg (by simpa [sub_eq_zero] using hx), hx, Nat.floor_natCast, Nat.ceil_natCast]
  · rw [if_pos (by simpa [sub_eq_zero] using hx)]
    have hlt : (⌊t⌋₊ : ℚ) < t := lt_of_le_of_ne (Nat.floor_le ht) (Ne.symm hx)
    refine le_antisymm (Nat.lt_ceil.2 hlt) (Nat.ceil_le.2 ?_)
    push_cast
    exact (Nat.lt_floor_add_one t).le

/-- To nearest, ties up in magnitude. -/
theorem roundNat_rmm (ht : 0 ≤ t) : roundNat .rmm neg t = ⌊t + 1 / 2⌋₊ := by
  have h1 := Nat.floor_le ht
  have h2 := Nat.lt_floor_add_one t
  have hup : goesUp .rmm neg ⌊t⌋₊ (t - ⌊t⌋₊) = decide (1 / 2 ≤ t - ⌊t⌋₊) := rfl
  rw [roundNat, hup]
  split
  next h =>
    rw [decide_eq_true_eq] at h
    exact ((Nat.floor_eq_iff (by linarith)).2 ⟨by push_cast; linarith, by push_cast; linarith⟩).symm
  next h =>
    rw [decide_eq_true_eq, not_le] at h
    exact ((Nat.floor_eq_iff (by linarith)).2 ⟨by linarith, by linarith⟩).symm

/-- To nearest, ties to even. -/
theorem roundNat_rne (ht : 0 ≤ t) : roundNat .rne neg t =
    if t - ⌊t⌋₊ = 1 / 2 then (if ⌊t⌋₊ % 2 = 0 then ⌊t⌋₊ else ⌊t⌋₊ + 1) else ⌊t + 1 / 2⌋₊ := by
  split
  next h =>
    rw [roundNat, goesUp, h]
    rcases Nat.mod_two_eq_zero_or_one ⌊t⌋₊ with h0 | h1
    · simp [h0]
    · simp [h1]
  next h =>
    have hne : decide (1 / 2 < t - ⌊t⌋₊) = decide (1 / 2 ≤ t - ⌊t⌋₊) := decide_eq_decide.2 (Ne.symm h).le_iff_lt.symm
    rw [← roundNat_rmm (neg := neg) ht, roundNat, roundNat, goesUp, goesUp, hne, decide_eq_false h, Bool.false_and,
      Bool.or_false]

end

/-! ### Rounding a number to an integer -/

/-- A number rounded to an integer, as R323 says it. -/
def roundInt (rm : Rounding) (x : ℚ) : ℤ :=
  match rm with
  | .rne => if Int.fract x = 1 / 2 then (if ⌊x⌋ % 2 = 0 then ⌊x⌋ else ⌊x⌋ + 1) else ⌊x + 1 / 2⌋
  | .rtz => if 0 ≤ x then ⌊x⌋ else ⌈x⌉
  | .rdn => ⌊x⌋
  | .rup => ⌈x⌉
  | .rmm => if 0 ≤ x then ⌊x + 1 / 2⌋ else ⌈x - 1 / 2⌉

section
variable {y : ℚ}

/-- A half of a unit, seen from the other side. -/
theorem fract_neg_eq_half_iff : Int.fract (-y) = 1 / 2 ↔ Int.fract y = 1 / 2 := by
  by_cases h : Int.fract y = 0
  · rw [Int.fract_neg_eq_zero.2 h, h]
  · rw [Int.fract_neg h]
    constructor <;> intro h' <;> linarith

/-- Away from a tie both ways of finding the nearest integer agree. -/
theorem ceil_sub_half (h : Int.fract y ≠ 1 / 2) : ⌈y - 1 / 2⌉ = ⌊y + 1 / 2⌋ := by
  have h0 := Int.floor_add_fract y
  have h1 := Int.fract_nonneg y
  have h2 := Int.fract_lt_one y
  rcases lt_or_gt_of_ne h with hlt | hgt
  · rw [show ⌊y + 1 / 2⌋ = ⌊y⌋ from Int.floor_eq_iff.2 ⟨by linarith, by linarith⟩]
    exact Int.ceil_eq_iff.2 ⟨by linarith, by linarith⟩
  · rw [show ⌊y + 1 / 2⌋ = ⌊y⌋ + 1 from Int.floor_eq_iff.2 ⟨by push_cast; linarith, by push_cast; linarith⟩]
    exact Int.ceil_eq_iff.2 ⟨by push_cast; linarith, by push_cast; linarith⟩

theorem roundInt_of_nonneg (rm : Rounding) (hy : 0 ≤ y) : roundInt rm y = roundNat rm false y := by
  have hfl : ((⌊y⌋₊ : ℕ) : ℤ) = ⌊y⌋ := Int.natCast_floor_eq_floor hy
  have hhalf : ((⌊y + 1 / 2⌋₊ : ℕ) : ℤ) = ⌊y + 1 / 2⌋ := Int.natCast_floor_eq_floor (by linarith)
  cases rm with
  | rne =>
    have hf : y - ⌊y⌋₊ = Int.fract y := by rw [Int.fract, ← hfl, Int.cast_natCast]
    rw [roundNat_rne hy, roundInt, hf]
    push_cast
    rw [hfl, hhalf, ← hfl]
    norm_cast
  | rtz => rw [roundNat_of_cutsOff (.inl rfl), hfl, roundInt, if_pos hy]
  | rdn => rw [roundNat_of_cutsOff (.inr (.inl ⟨rfl, rfl⟩)), hfl, roundInt]
  | rup => rw [roundNat_of_roundsAway (.inr ⟨rfl, rfl⟩) hy, roundInt, Int.natCast_ceil_eq_ceil hy]
  | rmm => rw [roundNat_rmm hy, hhalf, roundInt, if_pos hy]

theorem roundInt_neg (rm : Rounding) (hy : 0 ≤ y) : roundInt rm (-y) = -(roundNat rm true y : ℤ) := by
  have hfl : ((⌊y⌋₊ : ℕ) : ℤ) = ⌊y⌋ := Int.natCast_floor_eq_floor hy
  have hhalf : ((⌊y + 1 / 2⌋₊ : ℕ) : ℤ) = ⌊y + 1 / 2⌋ := Int.natCast_floor_eq_floor (by linarith)
  rcases hy.eq_or_lt with rfl | hpos
  · have h0 : roundNat rm true 0 = 0 := by simpa using roundNat_natCast rm true 0
    rw [h0, neg_zero, Nat.cast_zero, neg_zero]
    have hpos : roundNat rm false 0 = 0 := by simpa using roundNat_natCast rm false 0
    rw [roundInt_of_nonneg rm le_rfl, hpos, Nat.cast_zero]
  have hneg : ¬ 0 ≤ -y := by linarith
  cases rm with
  | rne =>
    have hf : y - ⌊y⌋₊ = Int.fract y := by rw [Int.fract, ← hfl, Int.cast_natCast]
    rw [roundNat_rne hy, roundInt, hf]
    by_cases hr : Int.fract y = 1 / 2
    · have h0 := Int.floor_add_fract y
      have hfloor : ⌊-y⌋ = -⌊y⌋ - 1 := Int.floor_eq_iff.2 ⟨by push_cast; linarith, by push_cast; linarith⟩
      rw [if_pos hr, if_pos (fract_neg_eq_half_iff.2 hr), hfloor, ← hfl]
      split <;> split <;> omega
    · rw [if_neg hr, if_neg (mt fract_neg_eq_half_iff.1 hr), hhalf, ← ceil_sub_half hr, ← Int.floor_neg]
      congr 1
      ring
  | rtz => rw [roundNat_of_cutsOff (.inl rfl), hfl, roundInt, if_neg hneg, Int.ceil_neg]
  | rdn => rw [roundNat_of_roundsAway (.inl ⟨rfl, rfl⟩) hy, roundInt, Int.natCast_ceil_eq_ceil hy, Int.floor_neg]
  | rup => rw [roundNat_of_cutsOff (.inr (.inr ⟨rfl, rfl⟩)), hfl, roundInt, Int.ceil_neg]
  | rmm =>
    rw [roundNat_rmm hy, hhalf, roundInt, if_neg hneg, ← Int.ceil_neg]
    congr 1
    ring

end

/-- A finite pattern rounded to an integer (R341). -/
theorem roundToInt_eq (rm : Rounding) (w : Word) :
    roundToInt rm w = (roundInt rm (fValue w), decide ((roundInt rm (fValue w) : ℚ) ≠ fValue w)) := by
  have hy : (0 : ℚ) ≤ fMant w * 2 ^ fPow w := mul_nonneg (Nat.cast_nonneg _) (two_zpow_pos _).le
  unfold roundToInt
  dsimp only
  rw [roundAt_eq, sub_zero, fValue_eq]
  refine Prod.ext ?_ (decide_eq_decide.2 (not_congr ?_))
  · cases fSign w
    · rw [signFactor_false, one_mul, roundInt_of_nonneg rm hy]; rfl
    · rw [signFactor_true, neg_one_mul, roundInt_neg rm hy]; rfl
  · cases fSign w
    · rw [signFactor_false, one_mul, roundInt_of_nonneg rm hy, Int.cast_natCast, roundNat_eq_iff]
    · rw [signFactor_true, neg_one_mul, roundInt_neg rm hy, Int.cast_neg, Int.cast_natCast, neg_inj, roundNat_eq_iff]

/-- Conversion to an integer between two bounds (R341, R342). -/
theorem fToInt_eq (rm : Rounding) (lo hi : ℤ) (w : Word) : fToInt rm lo hi w =
    if isFinite w = true then
      if roundInt rm (fValue w) < lo then (BitVec.ofInt 32 lo, flagNV)
      else if hi < roundInt rm (fValue w) then (BitVec.ofInt 32 hi, flagNV)
      else (BitVec.ofInt 32 (roundInt rm (fValue w)), if (roundInt rm (fValue w) : ℚ) = fValue w then 0 else flagNX)
    else (BitVec.ofInt 32 (if w = 0xFF800000 then lo else hi), flagNV) := by
  have hninf : w = 0xFF800000 ↔ fSign w = true ∧ fExp w = 255 ∧ fFrac w = 0 := eq_iff_fields
  unfold fToInt
  by_cases hn : isNaN w = true
  · have hw : w ≠ 0xFF800000 := fun h => (isNaN_iff.1 hn).2 (hninf.1 h).2.2
    have hfin : ¬ isFinite w = true := fun h => isFinite_iff.1 h (isNaN_iff.1 hn).1
    rw [if_pos hn, if_neg hfin, if_neg hw]
  rw [if_neg hn]
  by_cases hinf : isInf w = true
  · have hw : w = 0xFF800000 ↔ fSign w = true := hninf.trans (and_iff_left (isInf_iff.1 hinf))
    have hfin : ¬ isFinite w = true := fun h => isFinite_iff.1 h (isInf_iff.1 hinf).1
    simp only [if_pos hinf, if_neg hfin, hw]
  rw [if_neg hinf, if_pos (isFinite_of_not (Bool.eq_false_iff.2 hn) (Bool.eq_false_iff.2 hinf)), roundToInt_eq]
  dsimp only
  congr 3
  simp [inexactFlag]

/-- Settles O49: both conversions are the one between bounds. -/
theorem floatToInteger : Obligations.FloatToInteger := by
  intro m a rounded convert
  have hr : rounded (fValue a) = roundInt m (fValue a) := by cases m <;> rfl
  have hc : ∀ lo hi, fToInt m lo hi a = convert lo hi := fun lo hi => by
    rw [fToInt_eq, ← hr]
  exact ⟨hc _ _, hc _ _⟩

end Sys2Proof.Machine
end

section
/-! SUPPORT. Rounding to binary32 (43 R322, R323): the grid of finite numbers around a positive number, and the result that
`roundF32` picks there. -/

namespace Sys2Proof.Machine

/-! ### Patterns put together -/

theorem toNat_withSign (neg : Bool) {bits : ℕ} (h : bits < 2 ^ 31) :
    (withSign neg bits).toNat = (if neg then 2 ^ 31 else 0) + bits := by
  rw [withSign, BitVec.toNat_append, BitVec.toNat_ofNat, Nat.mod_eq_of_lt h, ← Nat.shiftLeft_add_eq_or_of_lt h]
  cases neg <;> rfl

theorem withSign_fields (neg : Bool) {bits : ℕ} (h : bits < 2 ^ 31) : fSign (withSign neg bits) = neg ∧
    fExp (withSign neg bits) = bits / 2 ^ 23 ∧ fFrac (withSign neg bits) = bits % 2 ^ 23 := by
  rw [fSign_eq, fExp_eq, fFrac_eq, toNat_withSign neg h]
  cases neg
  · refine ⟨decide_eq_false ?_, ?_, ?_⟩ <;> simp only [Bool.false_eq_true, if_false] <;> omega
  · refine ⟨decide_eq_true ?_, ?_, ?_⟩ <;> simp only [if_true] <;> omega

/-- The pattern of ± `sig` × 2 ^ `q`, where a significand of 24 bits may have been rounded up to 2 ^ 24 and the next exponent. -/
theorem withSign_spec (neg : Bool) {q : ℤ} {sig : ℕ} (hq : -149 ≤ q) (hs : sig ≤ 2 ^ 24) (hn : q = -149 ∨ 2 ^ 23 ≤ sig)
    (hb : (q + 149).toNat * 2 ^ 23 + sig < 0x7F800000) :
    isFinite (withSign neg ((q + 149).toNat * 2 ^ 23 + sig)) = true ∧
    fSign (withSign neg ((q + 149).toNat * 2 ^ 23 + sig)) = neg ∧
    |fValue (withSign neg ((q + 149).toNat * 2 ^ 23 + sig))| = sig * 2 ^ q ∧
    (sig % 2 = 0 → fMant (withSign neg ((q + 149).toNat * 2 ^ 23 + sig)) % 2 = 0) := by
  obtain ⟨k, rfl⟩ : ∃ k : ℕ, q = k - 149 := ⟨(q + 149).toNat, by omega⟩
  have hk : ((k : ℤ) - 149 + 149).toNat = k := by omega
  rw [hk] at hb ⊢
  obtain ⟨hsign, hexp, hfrac⟩ := withSign_fields neg (bits := k * 2 ^ 23 + sig) (by omega)
  rw [isFinite_iff, abs_fValue, fMant, fPow, hexp, hfrac]
  refine ⟨by omega, hsign, ?_⟩
  rcases Nat.lt_or_ge sig (2 ^ 23) with hsub | hnorm
  · obtain rfl : k = 0 := by omega
    rw [if_pos (by omega), if_pos (by omega), show (0 * 2 ^ 23 + sig) % 2 ^ 23 = sig by omega]
    exact ⟨by norm_num, id⟩
  rcases hs.lt_or_eq with hlt | rfl
  · rw [if_neg (by omega), if_neg (by omega), show (k * 2 ^ 23 + sig) % 2 ^ 23 + 2 ^ 23 = sig by omega,
      show (((k * 2 ^ 23 + sig) / 2 ^ 23 : ℕ) : ℤ) - 150 = k - 149 by omega]
    exact ⟨rfl, id⟩
  · rw [if_neg (by omega), if_neg (by omega), show (k * 2 ^ 23 + 2 ^ 24) % 2 ^ 23 + 2 ^ 23 = 2 ^ 23 by omega,
      show (((k * 2 ^ 23 + 2 ^ 24) / 2 ^ 23 : ℕ) : ℤ) - 150 = 1 + (k - 149) by omega, two_zpow_add]
    exact ⟨by push_cast; ring, fun _ => rfl⟩

/-- The largest finite number. -/
theorem abs_fValue_le {v : Word} (h : isFinite v = true) : |fValue v| ≤ (2 ^ 24 - 1 : ℕ) * 2 ^ (104 : ℤ) := by
  rw [abs_fValue]
  have hm : fMant v ≤ 2 ^ 24 - 1 := Nat.le_sub_one_of_lt (fMant_lt v)
  exact mul_le_mul (Nat.cast_le.2 hm) (zpow_le_zpow_right₀ (by norm_num) (fPow_le h)) (two_zpow_pos _).le (Nat.cast_nonneg _)

/-! ### The nearest number, mode by mode -/

section
variable {rm : Rounding} {neg : Bool} {x z : ℚ} {w : Word}

/-- The value of a pattern from its sign and its magnitude. -/
theorem fValue_of_abs (hs : fSign w = neg) (hz : |fValue w| = z) : fValue w = signFactor neg * z := by
  rw [fValue_eq, hs, ← abs_fValue, hz]

/-- The largest magnitude that is not above that of the number. -/
theorem nearest_of_cutsOff (h : CutsOff rm neg) (hw : fValue w = signFactor neg * z) (hz : 0 ≤ z) (hzx : z ≤ x)
    (hmax : ∀ v, isFinite v = true → |fValue v| ≤ x → |fValue v| ≤ z) : NearestFinite rm (signFactor neg * x) w := by
  have hx : 0 ≤ x := hz.trans hzx
  rcases h with rfl | ⟨rfl, rfl⟩ | ⟨rfl, rfl⟩
  · show |fValue w| ≤ |_| ∧ 0 ≤ fValue w * _ ∧ ∀ v, _
    rw [hw, abs_signFactor_mul, abs_signFactor_mul, abs_of_nonneg hz, abs_of_nonneg hx]
    refine ⟨hzx, ?_, hmax⟩
    cases neg <;> simp [mul_nonneg hz hx]
  · show fValue w ≤ _ ∧ ∀ v, _
    rw [hw, signFactor_false, one_mul, one_mul]
    refine ⟨hzx, fun v hv hvx => ?_⟩
    rcases le_or_gt (fValue v) 0 with h0 | h0
    · exact h0.trans hz
    · rw [← abs_of_pos h0] at hvx ⊢
      exact hmax v hv hvx
  · show _ ≤ fValue w ∧ ∀ v, _
    rw [hw, signFactor_true, neg_one_mul, neg_one_mul]
    refine ⟨neg_le_neg hzx, fun v hv hvx => ?_⟩
    rcases le_or_gt 0 (fValue v) with h0 | h0
    · exact (neg_nonpos.2 hz).trans h0
    · have habs := abs_of_neg h0
      have := hmax v hv (by linarith)
      linarith

/-- The smallest magnitude that is not below that of the number. -/
theorem nearest_of_roundsAway (h : RoundsAway rm neg) (hw : fValue w = signFactor neg * z) (hx : 0 < x) (hxz : x ≤ z)
    (hmin : ∀ v, isFinite v = true → x ≤ |fValue v| → z ≤ |fValue v|) : NearestFinite rm (signFactor neg * x) w := by
  rcases h with ⟨rfl, rfl⟩ | ⟨rfl, rfl⟩
  · show fValue w ≤ _ ∧ ∀ v, _
    rw [hw, signFactor_true, neg_one_mul, neg_one_mul]
    refine ⟨neg_le_neg hxz, fun v hv hvx => ?_⟩
    have habs := abs_of_neg (show fValue v < 0 by linarith)
    have := hmin v hv (by linarith)
    linarith
  · show _ ≤ fValue w ∧ ∀ v, _
    rw [hw, signFactor_false, one_mul, one_mul]
    refine ⟨hxz, fun v hv hvx => ?_⟩
    have habs := abs_of_pos (hx.trans_le hvx)
    exact habs ▸ hmin v hv (habs.symm ▸ hvx)

/-- Between magnitudes the signs do not matter: a number of the other sign is farther away. -/
theorem abs_sub_signed (hx : 0 < x) (v : ℚ) :
    |(|v| - x)| ≤ |v - signFactor neg * x| ∧ (|(|v| - x)| = |v - signFactor neg * x| → v = signFactor neg * |v|) := by
  cases neg
  · rw [signFactor_false, one_mul, one_mul]
    rcases le_or_gt 0 v with hv | hv
    · simp [abs_of_nonneg hv]
    · rw [abs_of_neg hv, abs_of_neg (show v - x < 0 by linarith)]
      rcases abs_cases (-v - x) with ⟨h, -⟩ | ⟨h, -⟩ <;> exact ⟨by linarith, fun he => by linarith⟩
  · rw [signFactor_true, neg_one_mul, neg_one_mul, sub_neg_eq_add]
    rcases le_or_gt v 0 with hv | hv
    · rw [abs_of_nonpos hv, ← abs_neg (-v - x)]
      exact ⟨by simp [add_comm], fun _ => (neg_neg v).symm⟩
    · rw [abs_of_pos hv, abs_of_pos (show 0 < v + x by linarith)]
      rcases abs_cases (v - x) with ⟨h, -⟩ | ⟨h, -⟩ <;> exact ⟨by linarith, fun he => by linarith⟩

theorem nearest_rne (hw : fValue w = signFactor neg * z) (hx : 0 < x)
    (hmin : ∀ v, isFinite v = true → |z - x| ≤ |(|fValue v| - x)| ∧
      (|z - x| = |(|fValue v| - x)| → |fValue v| ≠ z → fMant w % 2 = 0)) :
    NearestFinite .rne (signFactor neg * x) w := by
  intro v hv
  obtain ⟨hle, heven⟩ := hmin v hv
  obtain ⟨hfar, hsign⟩ := abs_sub_signed (neg := neg) hx (fValue v)
  have hwx : |fValue w - signFactor neg * x| = |z - x| := by rw [hw, ← mul_sub, abs_signFactor_mul]
  rw [hwx]
  refine ⟨hle.trans hfar, fun he hne => heven (le_antisymm hle (he ▸ hfar)) fun hz => hne ?_⟩
  rw [hsign (le_antisymm hfar (he ▸ hle)), hw, hz]

theorem nearest_rmm (hw : fValue w = signFactor neg * z) (hz : 0 ≤ z) (hx : 0 < x)
    (hmin : ∀ v, isFinite v = true → |z - x| ≤ |(|fValue v| - x)| ∧ (|z - x| = |(|fValue v| - x)| → |fValue v| ≤ z)) :
    NearestFinite .rmm (signFactor neg * x) w := by
  intro v hv
  obtain ⟨hle, hlarge⟩ := hmin v hv
  obtain ⟨hfar, -⟩ := abs_sub_signed (neg := neg) hx (fValue v)
  have hwx : |fValue w - signFactor neg * x| = |z - x| := by rw [hw, ← mul_sub, abs_signFactor_mul]
  rw [hwx, hw, abs_signFactor_mul, abs_of_nonneg hz]
  exact ⟨hle.trans hfar, fun he => hlarge (le_antisymm hle (he ▸ hfar))⟩

end

/-! ### Rounding among numbers with nothing between two integers -/

section
variable {rm : Rounding} {neg : Bool} {t y : ℚ}

/-- Rounding does not go below a number under `t`. -/
theorem le_roundNat (hy : y ≤ ⌊t⌋₊ ∨ (⌊t⌋₊ : ℚ) + 1 ≤ y) (hyt : y ≤ t) : y ≤ roundNat rm neg t := by
  have hfloor : y ≤ ⌊t⌋₊ := hy.resolve_right fun hup => absurd (Nat.lt_floor_add_one t) (not_lt.2 (hup.trans hyt))
  exact hfloor.trans (Nat.cast_le.2 floor_le_roundNat)

/-- Rounding does not go past a number above `t`. -/
theorem roundNat_le (ht : 0 ≤ t) (hy : y ≤ ⌊t⌋₊ ∨ (⌊t⌋₊ : ℚ) + 1 ≤ y) (hty : t ≤ y) : (roundNat rm neg t : ℚ) ≤ y := by
  rcases hy with hdown | hup
  · have ht' : t = ⌊t⌋₊ := le_antisymm (hty.trans hdown) (Nat.floor_le ht)
    rw [roundNat_eq_iff.2 ht']
    exact hty
  · exact (by exact_mod_cast roundNat_le_floor_add_one : (roundNat rm neg t : ℚ) ≤ ⌊t⌋₊ + 1).trans hup

/-- The modes to nearest and their two outcomes. -/
theorem roundNat_nearest_cases (h : rm = .rne ∨ rm = .rmm) (neg : Bool) (t : ℚ) :
    (roundNat rm neg t = ⌊t⌋₊ + 1 ∧ 1 / 2 ≤ t - ⌊t⌋₊) ∨ (roundNat rm neg t = ⌊t⌋₊ ∧ t - ⌊t⌋₊ ≤ 1 / 2) := by
  cases hup : goesUp rm neg ⌊t⌋₊ (t - ⌊t⌋₊)
  · refine .inr ⟨by rw [roundNat, hup]; rfl, ?_⟩
    rcases h with rfl | rfl
    · simp only [goesUp, Bool.or_eq_false_iff, decide_eq_false_iff_not, not_lt] at hup
      exact hup.1
    · simp only [goesUp, decide_eq_false_iff_not, not_le] at hup
      exact hup.le
  · refine .inl ⟨by rw [roundNat, hup]; rfl, ?_⟩
    rcases h with rfl | rfl
    · simp only [goesUp, Bool.or_eq_true, Bool.and_eq_true, decide_eq_true_eq] at hup
      rcases hup with hlt | ⟨heq, -⟩
      · exact hlt.le
      · exact heq.ge
    · exact of_decide_eq_true hup

/-- A tie goes to the even neighbour or away from zero. -/
theorem roundNat_of_tie (h : t - ⌊t⌋₊ = 1 / 2) : roundNat .rne neg t % 2 = 0 ∧ roundNat .rmm neg t = ⌊t⌋₊ + 1 := by
  constructor
  · rw [roundNat, goesUp, h]
    rcases Nat.mod_two_eq_zero_or_one ⌊t⌋₊ with h0 | h1
    · simp [h0]
    · simp [h1]
      omega
  · rw [roundNat, goesUp, h]
    simp

/-- The integer picked is nearest, and another number as near means a tie. -/
theorem roundNat_nearest (h : rm = .rne ∨ rm = .rmm) (ht : 0 ≤ t) (hy : y ≤ ⌊t⌋₊ ∨ (⌊t⌋₊ : ℚ) + 1 ≤ y) :
    |(roundNat rm neg t : ℚ) - t| ≤ |y - t| ∧
      (|(roundNat rm neg t : ℚ) - t| = |y - t| → y = roundNat rm neg t ∨ (t - ⌊t⌋₊ = 1 / 2 ∧ y ≤ ⌊t⌋₊ + 1)) := by
  have h1 := Nat.floor_le ht
  have h2 := Nat.lt_floor_add_one t
  rcases roundNat_nearest_cases h neg t with ⟨hr, hhalf⟩ | ⟨hr, hhalf⟩
  · rw [hr]
    push_cast
    rw [abs_of_pos (show (0 : ℚ) < ⌊t⌋₊ + 1 - t by linarith)]
    rcases hy with hdown | hup
    · rw [abs_of_nonpos (show y - t ≤ 0 by linarith)]
      exact ⟨by linarith, fun he => .inr ⟨by linarith, by linarith⟩⟩
    · rw [abs_of_pos (show 0 < y - t by linarith)]
      exact ⟨by linarith, fun he => .inl (by linarith)⟩
  · rw [hr, abs_of_nonpos (show (⌊t⌋₊ : ℚ) - t ≤ 0 by linarith)]
    rcases hy with hdown | hup
    · rw [abs_of_nonpos (show y - t ≤ 0 by linarith)]
      exact ⟨by linarith, fun he => .inl (by linarith)⟩
    · rw [abs_of_pos (show 0 < y - t by linarith)]
      exact ⟨by linarith, fun he => .inr ⟨by linarith, by linarith⟩⟩

end

/-- Every mode rounds to nearest, cuts, or rounds away from zero. -/
theorem rounding_cases (rm : Rounding) (neg : Bool) : (rm = .rne ∨ rm = .rmm) ∨ CutsOff rm neg ∨ RoundsAway rm neg := by
  cases rm <;> cases neg <;> simp [CutsOff, RoundsAway]

end Sys2Proof.Machine
end

section
/-! SUPPORT. A positive rational number rounded to binary32 (43 R322, R323): the result and the flags that `roundF32` computes,
said of rational numbers and shown to be what the claims ask for. -/

namespace Sys2Proof.Machine

/-! ### Units of the last place -/

/-- The exponent of the last place of a number between 2 ^ `top` and 2 ^ (`top` + 1) (R320). -/
def lastPlace (top : ℤ) : ℤ := max (top - 23) (-149)

/-- The multiples of one power of two leave no room between two neighbours for a multiple of a higher one, nor for a number of fewer
bits. -/
theorem mul_zpow_gap {b k n : ℕ} {p q : ℤ} (hk : k < 2 ^ (b + 1)) (h : q ≤ p ∨ 2 ^ b ≤ n) :
    (k : ℚ) * 2 ^ p ≤ n * 2 ^ q ∨ (n + 1 : ℚ) * 2 ^ q ≤ k * 2 ^ p := by
  rcases le_or_gt q p with hqp | hpq
  · obtain ⟨d, rfl⟩ := Int.le.dest hqp
    have he : (k : ℚ) * 2 ^ (q + d) = ((k * 2 ^ d : ℕ) : ℚ) * 2 ^ q := by
      rw [two_zpow_add, two_zpow_natCast]; push_cast; ring
    rw [he, mul_le_mul_iff_left₀ (two_zpow_pos q), mul_le_mul_iff_left₀ (two_zpow_pos q)]
    exact_mod_cast (Nat.lt_or_ge n (k * 2 ^ d)).symm
  · have hn : 2 ^ b ≤ n := h.resolve_left (not_le.2 hpq)
    left
    calc (k : ℚ) * 2 ^ p
      _ ≤ (2 ^ (b + 1) : ℕ) * 2 ^ p := mul_le_mul_of_nonneg_right (Nat.cast_le.2 hk.le) (two_zpow_pos p).le
      _ = (2 ^ b : ℕ) * 2 ^ (p + 1) := by rw [two_zpow_add]; push_cast; ring
      _ ≤ (2 ^ b : ℕ) * 2 ^ q :=
        mul_le_mul_of_nonneg_left (zpow_le_zpow_right₀ (by norm_num) (by omega)) (Nat.cast_nonneg _)
      _ ≤ n * 2 ^ q := mul_le_mul_of_nonneg_right (Nat.cast_le.2 hn) (two_zpow_pos q).le

section
variable {x : ℚ} {top : ℤ}

theorem scaled_lt (h : x < 2 ^ (top + 1)) : x / 2 ^ lastPlace top < 2 ^ 24 := by
  rw [div_lt_iff₀ (two_zpow_pos _)]
  calc x
    _ < 2 ^ (top + 1) := h
    _ ≤ 2 ^ ((24 : ℕ) + lastPlace top) := zpow_le_zpow_right₀ (by norm_num) (by unfold lastPlace; omega)
    _ = 2 ^ 24 * 2 ^ lastPlace top := by rw [two_zpow_add, two_zpow_natCast]; norm_num

/-- A number that is not subnormal fills its significand. -/
theorem le_floor_scaled (h : 2 ^ top ≤ x) : lastPlace top = -149 ∨ 2 ^ 23 ≤ ⌊x / 2 ^ lastPlace top⌋₊ := by
  by_cases hq : top - 23 ≤ -149
  · exact .inl (max_eq_right hq)
  · right
    rw [Nat.le_floor_iff' (by positivity), le_div_iff₀ (two_zpow_pos _), ← two_zpow_natCast, ← two_zpow_add]
    have hl : ((23 : ℕ) : ℤ) + lastPlace top = top := by unfold lastPlace; omega
    rwa [hl]

/-- No finite number lies between two neighbouring multiples of the last place. -/
theorem grid_of_finite (h : 2 ^ top ≤ x) (v : Word) : ∃ y : ℚ, |fValue v| = y * 2 ^ lastPlace top ∧
    (y ≤ ⌊x / 2 ^ lastPlace top⌋₊ ∨ (⌊x / 2 ^ lastPlace top⌋₊ : ℚ) + 1 ≤ y) := by
  have hu := two_zpow_pos (lastPlace top)
  have hp := fPow_ge v
  refine ⟨|fValue v| / 2 ^ lastPlace top, (div_mul_cancel₀ _ hu.ne').symm, ?_⟩
  rw [div_le_iff₀ hu, le_div_iff₀ hu, abs_fValue]
  refine mul_zpow_gap (b := 23) (fMant_lt v) ((le_floor_scaled h).imp_left fun he => by omega)

end

/-! ### The nearest pattern -/

/-- Rounding `t` units to a natural number of units is rounding to the nearest finite number, where the finite numbers leave a gap
around `t`. -/
theorem nearest_of_grid {rm : Rounding} {neg : Bool} {u t : ℚ} {w : Word} (hu : 0 < u) (ht : 0 < t)
    (hw : fValue w = signFactor neg * (roundNat rm neg t * u)) (heven : roundNat rm neg t % 2 = 0 → fMant w % 2 = 0)
    (hgrid : ∀ v, ∃ y : ℚ, |fValue v| = y * u ∧ (y ≤ ⌊t⌋₊ ∨ (⌊t⌋₊ : ℚ) + 1 ≤ y)) :
    NearestFinite rm (signFactor neg * (t * u)) w := by
  have hscale : ∀ p r : ℚ, |p * u - r * u| = |p - r| * u := fun p r => by rw [← sub_mul, abs_mul, abs_of_pos hu]
  have hsig : (0 : ℚ) ≤ roundNat rm neg t * u := mul_nonneg (Nat.cast_nonneg _) hu.le
  rcases rounding_cases rm neg with hn | hcut | haway
  · have hmin : ∀ v, |roundNat rm neg t * u - t * u| ≤ |(|fValue v| - t * u)| ∧
        (|roundNat rm neg t * u - t * u| = |(|fValue v| - t * u)| →
          |fValue v| = roundNat rm neg t * u ∨ (t - ⌊t⌋₊ = 1 / 2 ∧ |fValue v| ≤ (⌊t⌋₊ + 1) * u)) := fun v => by
      obtain ⟨y, hy, hgap⟩ := hgrid v
      obtain ⟨hle, heq⟩ := roundNat_nearest (neg := neg) hn ht.le hgap
      rw [hy, hscale, hscale, mul_le_mul_iff_left₀ hu, mul_left_inj' hu.ne', mul_left_inj' hu.ne', mul_le_mul_iff_left₀ hu]
      exact ⟨hle, heq⟩
    rcases hn with rfl | rfl
    · refine nearest_rne hw (mul_pos ht hu) fun v _ => ⟨(hmin v).1, fun he hne => heven ?_⟩
      exact (((hmin v).2 he).resolve_left hne).elim fun htie _ => (roundNat_of_tie htie).1
    · refine nearest_rmm hw hsig (mul_pos ht hu) fun v _ => ⟨(hmin v).1, fun he => ?_⟩
      rcases (hmin v).2 he with heq | ⟨htie, hle⟩
      · exact heq.le
      · rw [(roundNat_of_tie htie).2]
        push_cast
        exact hle
  · refine nearest_of_cutsOff hcut hw hsig ?_ fun v _ hv => ?_
    · rw [mul_le_mul_iff_left₀ hu, roundNat_of_cutsOff hcut]
      exact Nat.floor_le ht.le
    · obtain ⟨y, hy, hgap⟩ := hgrid v
      rw [hy, mul_le_mul_iff_left₀ hu] at hv ⊢
      exact le_roundNat hgap hv
  · refine nearest_of_roundsAway haway hw (mul_pos ht hu) ?_ fun v _ hv => ?_
    · rw [mul_le_mul_iff_left₀ hu, roundNat_of_roundsAway haway ht.le]
      exact Nat.le_ceil t
    · obtain ⟨y, hy, hgap⟩ := hgrid v
      rw [hy, mul_le_mul_iff_left₀ hu] at hv ⊢
      exact roundNat_le ht.le hgap hv

/-! ### Overflow -/

section
variable {rm : Rounding} {neg : Bool} {t : ℚ}

theorem roundNat_le_of_le_natCast (n : ℕ) (ht : 0 ≤ t) (h : t ≤ n) : roundNat rm neg t ≤ n := by
  have hgap : (n : ℚ) ≤ ⌊t⌋₊ ∨ (⌊t⌋₊ : ℚ) + 1 ≤ n := by exact_mod_cast (Nat.lt_or_ge ⌊t⌋₊ n).symm
  exact_mod_cast roundNat_le ht hgap h

/-- To nearest, the last significand of 24 bits is left half a unit above it. -/
theorem roundNat_top_of_nearest (h : rm = .rne ∨ rm = .rmm) (ht : t < 2 ^ 24) :
    roundNat rm neg t = 2 ^ 24 ↔ 2 ^ 24 - 1 / 2 ≤ t := by
  have h0 : t < ((2 ^ 24 : ℕ) : ℚ) := by exact_mod_cast ht
  have hfloor : ⌊t⌋₊ < 2 ^ 24 := Nat.floor_lt' (by norm_num) |>.2 h0
  have hlt := Nat.lt_floor_add_one t
  constructor
  · intro hr
    rcases roundNat_nearest_cases h neg t with ⟨hup, hhalf⟩ | ⟨hdown, -⟩
    · have hn : ⌊t⌋₊ = 2 ^ 24 - 1 := by omega
      rw [hn] at hhalf
      norm_num at hhalf ⊢
      linarith
    · omega
  · intro hle
    have hn : ⌊t⌋₊ = 2 ^ 24 - 1 := by
      refine Nat.le_antisymm (by omega) (Nat.le_floor ?_)
      norm_num
      linarith
    rcases roundNat_nearest_cases h neg t with ⟨hup, -⟩ | ⟨hdown, hhalf⟩
    · omega
    · have htie : t - ⌊t⌋₊ = 1 / 2 := by
        refine le_antisymm hhalf ?_
        rw [hn]
        norm_num
        linarith
      obtain ⟨heven, hup⟩ := roundNat_of_tie (neg := neg) htie
      rcases h with rfl | rfl <;> omega

/-- Away from zero, it is left at once. -/
theorem roundNat_top_of_roundsAway (h : RoundsAway rm neg) (ht0 : 0 ≤ t) (ht : t < 2 ^ 24) :
    roundNat rm neg t = 2 ^ 24 ↔ 2 ^ 24 - 1 < t := by
  have hle : roundNat rm neg t ≤ 2 ^ 24 := roundNat_le_of_le_natCast _ ht0 (by push_cast; exact ht.le)
  have hlt : 2 ^ 24 - 1 < roundNat rm neg t ↔ 2 ^ 24 - 1 < t := by
    rw [roundNat_of_roundsAway h ht0, Nat.lt_ceil]
    norm_num
  rw [← hlt]
  omega

theorem roundNat_top_of_cutsOff (h : CutsOff rm neg) (ht : t < 2 ^ 24) : roundNat rm neg t ≠ 2 ^ 24 := by
  rw [roundNat_of_cutsOff h]
  have h0 : t < ((2 ^ 24 : ℕ) : ℚ) := by exact_mod_cast ht
  exact (Nat.floor_lt' (by norm_num) |>.2 h0).ne

/-- The pattern of an overflow. -/
theorem overflowResult_eq (rm : Rounding) (neg : Bool) :
    (CutsOff rm neg ∧ overflowResult rm neg = withSign neg 0x7F7FFFFF) ∨
      (¬ CutsOff rm neg ∧ overflowResult rm neg = infinity neg) := by
  cases rm <;> cases neg <;> simp [CutsOff, overflowResult]

end

/-- The mode rounds the number `x` to an infinity, as the claim says it. -/
def OverflowsToInfinity (rm : Rounding) (x : ℚ) : Prop :=
  match rm with
  | .rne | .rmm => (2 : ℚ) ^ 128 - 2 ^ 103 ≤ |x|
  | .rtz => False
  | .rdn => x < -((2 : ℚ) ^ 128 - 2 ^ 104)
  | .rup => (2 : ℚ) ^ 128 - 2 ^ 104 < x

/-- The claim's fields, with its thresholds under their name. -/
theorem roundsTo_of_fields {rm : Rounding} {x : ℚ} {w : Word} {fl : BitVec 5} (number : isNaN w = false)
    (sign : fSign w = decide (x < 0)) (finite : isFinite w = true → NearestFinite rm x w)
    (infinite : isInf w = true ↔ OverflowsToInfinity rm x) (noInvalid : fl &&& (flagNV ||| flagDZ) = 0)
    (inexact : fl &&& flagNX ≠ 0 ↔ isFinite w = false ∨ fValue w ≠ x)
    (overflow : fl &&& flagOF ≠ 0 ↔ isFinite w = false ∨ (2 : ℚ) ^ 128 ≤ |x|)
    (underflow : fl &&& flagUF ≠ 0 → fl &&& flagNX ≠ 0 ∧ |x| < (2 : ℚ) ^ (-126 : ℤ))
    (tiny : fl &&& flagNX ≠ 0 → |x| ≤ (2 : ℚ) ^ (-126 : ℤ) - 2 ^ (-150 : ℤ) → fl &&& flagUF ≠ 0) :
    RoundsTo rm x (w, fl) := by
  cases rm <;> exact ⟨number, sign, finite, infinite, noInvalid, inexact, overflow, underflow, tiny⟩

section
variable {rm : Rounding} {neg : Bool} {x : ℚ} {top : ℤ}

/-- The significand and the exponent of the last place leave the range together: at 2 ^ 128 or by rounding up to it. -/
def LeavesRange (rm : Rounding) (neg : Bool) (x : ℚ) (top : ℤ) : Prop :=
  128 ≤ top ∨ (top = 127 ∧ roundNat rm neg (x / 2 ^ lastPlace top) = 2 ^ 24)

theorem le_of_le_top (h : 2 ^ top ≤ x) {k : ℕ} (hk : (k : ℤ) ≤ top) : (2 : ℚ) ^ k ≤ x :=
  (zpow_natCast (2 : ℚ) k ▸ zpow_le_zpow_right₀ (by norm_num) hk).trans h

theorem lt_of_top_lt (h : x < 2 ^ (top + 1)) {k : ℕ} (hk : top < k) : x < (2 : ℚ) ^ k :=
  h.trans_le (zpow_natCast (2 : ℚ) k ▸ zpow_le_zpow_right₀ (by norm_num) (by omega))

/-- A bound just under 2 ^ 128 is crossed at 2 ^ 128 or in the last binade below it. -/
theorem leavesRange_iff (h1 : 2 ^ top ≤ x) (h2 : x < 2 ^ (top + 1)) {P : Prop} (hlow : P → 2 ^ 127 ≤ x)
    (hhigh : 2 ^ 128 ≤ x → P) (htop : lastPlace top = 104 → (roundNat rm neg (x / 2 ^ lastPlace top) = 2 ^ 24 ↔ P)) :
    LeavesRange rm neg x top ↔ P := by
  constructor
  · rintro (h | ⟨rfl, h⟩)
    · exact hhigh (le_of_le_top h1 (by exact_mod_cast h))
    · exact (htop rfl).1 h
  · intro h
    have hge : 127 ≤ top := by
      by_contra hlt
      exact absurd (hlow h) (not_le.2 (lt_of_top_lt h2 (k := 127) (by push_cast; omega)))
    rcases hge.eq_or_lt with rfl | hgt
    · exact .inr ⟨rfl, (htop rfl).2 h⟩
    · exact .inl hgt

/-- The thresholds of R323, one for each way to round. -/
theorem overflowsToInfinity_iff (h1 : 2 ^ top ≤ x) (h2 : x < 2 ^ (top + 1)) :
    OverflowsToInfinity rm (signFactor neg * x) ↔ ¬ CutsOff rm neg ∧ LeavesRange rm neg x top := by
  have hx : 0 < x := (two_zpow_pos top).trans_le h1
  have ht0 : 0 ≤ x / 2 ^ lastPlace top := div_nonneg hx.le (two_zpow_pos _).le
  have ht := scaled_lt h2
  have hscale : ∀ k : ℚ, lastPlace top = 104 → (k ≤ x / 2 ^ lastPlace top ↔ k * 2 ^ 104 ≤ x) ∧
      (k < x / 2 ^ lastPlace top ↔ k * 2 ^ 104 < x) := fun k hq => by
    have h104 : (2 : ℚ) ^ lastPlace top = 2 ^ 104 := by rw [hq]; exact zpow_natCast 2 104
    rw [h104, le_div_iff₀ (by positivity), lt_div_iff₀ (by positivity)]
    exact ⟨Iff.rfl, Iff.rfl⟩
  rcases rounding_cases rm neg with hn | hcut | haway
  · have hnot : ¬ CutsOff rm neg := by rcases hn with rfl | rfl <;> simp [CutsOff]
    have hP : OverflowsToInfinity rm (signFactor neg * x) ↔ (2 : ℚ) ^ 128 - 2 ^ 103 ≤ x := by
      rcases hn with rfl | rfl <;> simp only [OverflowsToInfinity, abs_signFactor_mul, abs_of_pos hx]
    rw [and_iff_right hnot, hP]
    refine (leavesRange_iff h1 h2 (fun h => ?_) (fun h => ?_) fun hq => ?_).symm
    · norm_num at h ⊢; linarith
    · norm_num at h ⊢; linarith
    · rw [roundNat_top_of_nearest hn ht, (hscale _ hq).1]
      norm_num
  · have hno : ¬ OverflowsToInfinity rm (signFactor neg * x) := by
      rcases hcut with rfl | ⟨rfl, rfl⟩ | ⟨rfl, rfl⟩
      · exact id
      · simp only [OverflowsToInfinity, signFactor_false, one_mul, not_lt]
        norm_num; linarith
      · simp only [OverflowsToInfinity, signFactor_true, neg_one_mul, not_lt]
        norm_num; linarith
    exact iff_of_false hno fun h => h.1 hcut
  · have hnot : ¬ CutsOff rm neg := by rcases haway with ⟨rfl, rfl⟩ | ⟨rfl, rfl⟩ <;> simp [CutsOff]
    have hP : OverflowsToInfinity rm (signFactor neg * x) ↔ (2 : ℚ) ^ 128 - 2 ^ 104 < x := by
      rcases haway with ⟨rfl, rfl⟩ | ⟨rfl, rfl⟩
      · simp only [OverflowsToInfinity, signFactor_true, neg_one_mul, neg_lt_neg_iff]
      · simp only [OverflowsToInfinity, signFactor_false, one_mul]
    rw [and_iff_right hnot, hP]
    refine (leavesRange_iff h1 h2 (fun h => ?_) (fun h => ?_) fun hq => ?_).symm
    · norm_num at h ⊢; linarith
    · norm_num at h ⊢; linarith
    · rw [roundNat_top_of_roundsAway haway ht0 ht, (hscale _ hq).2]
      norm_num

end

/-! ### The result -/

/-- Is a number of exponent `top` below 2 ^ -126 after rounding to 24 bits with unbounded exponent (R322)? -/
def tinyRat (rm : Rounding) (neg : Bool) (x : ℚ) (top : ℤ) : Bool :=
  if top ≥ -126 then false
  else if top = -127 then roundNat rm neg (x / 2 ^ (top - 23)) != 2 ^ 24
  else true

/-- The number ± `x`, 2 ^ `top` ≤ `x` < 2 ^ (`top` + 1), rounded to binary32, as the model does it. -/
def roundRat (rm : Rounding) (neg : Bool) (x : ℚ) (top : ℤ) : FpResult :=
  let t := x / 2 ^ lastPlace top
  let inexact := decide (t ≠ ⌊t⌋₊)
  let bits := (lastPlace top + 149).toNat * 2 ^ 23 + roundNat rm neg t
  if bits ≥ 0x7F800000 then (overflowResult rm neg, flagOF ||| flagNX)
  else (withSign neg bits, (if inexact && tinyRat rm neg x top then flagUF else 0) ||| inexactFlag inexact)

section
variable {rm : Rounding} {neg : Bool} {x : ℚ} {top : ℤ}

theorem significand_bounds (h1 : 2 ^ top ≤ x) (h2 : x < 2 ^ (top + 1)) :
    roundNat rm neg (x / 2 ^ lastPlace top) ≤ 2 ^ 24 ∧
      (lastPlace top = -149 ∨ 2 ^ 23 ≤ roundNat rm neg (x / 2 ^ lastPlace top)) := by
  have ht0 : 0 ≤ x / 2 ^ lastPlace top := div_nonneg ((two_zpow_pos top).trans_le h1).le (two_zpow_pos _).le
  exact ⟨roundNat_le_of_le_natCast _ ht0 (by push_cast; exact (scaled_lt h2).le),
    (le_floor_scaled h1).imp_right fun h => h.trans floor_le_roundNat⟩

theorem bits_ge_iff (h1 : 2 ^ top ≤ x) (h2 : x < 2 ^ (top + 1)) :
    (lastPlace top + 149).toNat * 2 ^ 23 + roundNat rm neg (x / 2 ^ lastPlace top) ≥ 0x7F800000 ↔ LeavesRange rm neg x top := by
  obtain ⟨hle, hge⟩ := significand_bounds (rm := rm) (neg := neg) h1 h2
  unfold LeavesRange
  generalize roundNat rm neg (x / 2 ^ lastPlace top) = sig at *
  unfold lastPlace at *
  omega

theorem tinyRat_lt (h2 : x < 2 ^ (top + 1)) (h : tinyRat rm neg x top = true) : x < 2 ^ (-126 : ℤ) := by
  have htop : top < -126 := by
    by_contra hge
    rw [tinyRat, if_pos (not_lt.1 hge)] at h
    cases h
  exact h2.trans_le (zpow_le_zpow_right₀ (by norm_num) (by omega))

theorem tinyRat_of_le (h1 : 2 ^ top ≤ x) (h : x ≤ 2 ^ (-126 : ℤ) - 2 ^ (-150 : ℤ)) : tinyRat rm neg x top = true := by
  have htop : ¬ top ≥ -126 := fun hge => by
    have hle : (2 : ℚ) ^ (-126 : ℤ) ≤ 2 ^ top := zpow_le_zpow_right₀ (by norm_num) hge
    have := two_zpow_pos (-150)
    linarith
  rw [tinyRat, if_neg htop]
  split
  next he =>
    have hle : x / 2 ^ (top - 23) ≤ (2 ^ 24 - 1 : ℕ) := by
      rw [he, div_le_iff₀ (two_zpow_pos _)]
      refine h.trans (le_of_eq ?_)
      norm_num
    have ht0 : 0 ≤ x / 2 ^ (top - 23) := div_nonneg ((two_zpow_pos top).trans_le h1).le (two_zpow_pos _).le
    have hr := roundNat_le_of_le_natCast (rm := rm) (neg := neg) _ ht0 hle
    simp only [bne_iff_ne]
    omega
  next => rfl

/-- The flags of a result in range. -/
theorem inexactFlags_spec : ∀ i u : Bool, let fl := (if i && u then flagUF else 0) ||| inexactFlag i
    fl &&& (flagNV ||| flagDZ) = 0 ∧ (fl &&& flagNX ≠ 0 ↔ i = true) ∧ fl &&& flagOF = 0 ∧
      (fl &&& flagUF ≠ 0 ↔ i = true ∧ u = true) := by decide

theorem decide_signFactor_mul_neg (hx : 0 < x) : decide (signFactor neg * x < 0) = neg := by
  cases neg <;> simp [hx, hx.le]

/-- A finite result is correct when it is nearest, and its flags tell whether it is exact (`i`) and tiny (`u`). -/
theorem roundsTo_of_finite {w : Word} (hx : 0 < x) (hfin : isFinite w = true) (hsign : fSign w = neg)
    (hnear : NearestFinite rm (signFactor neg * x) w) (hno : ¬ OverflowsToInfinity rm (signFactor neg * x)) (hlt : x < 2 ^ 128)
    {i u : Bool} (hi : i = true ↔ fValue w ≠ signFactor neg * x) (hu : u = true → x < 2 ^ (-126 : ℤ))
    (hu' : x ≤ 2 ^ (-126 : ℤ) - 2 ^ (-150 : ℤ) → u = true) :
    RoundsTo rm (signFactor neg * x) (w, (if i && u then flagUF else 0) ||| inexactFlag i) := by
  obtain ⟨hnv, hnx, hof, huf⟩ := inexactFlags_spec i u
  have hf : ¬ isFinite w = false := by rw [hfin]; exact Bool.noConfusion
  have habs : |signFactor neg * x| = x := by rw [abs_signFactor_mul, abs_of_pos hx]
  refine roundsTo_of_fields (isNaN_false_of_isFinite hfin) (hsign.trans (decide_signFactor_mul_neg hx).symm) (fun _ => hnear)
    (iff_of_false (Bool.eq_false_iff.1 (isInf_false_of_isFinite hfin)) hno) hnv
    (hnx.trans (hi.trans (or_iff_right hf).symm)) ?_ (fun h => ?_) fun h hle => ?_
  · rw [habs]
    exact iff_of_false (not_not.2 hof) fun h => h.elim hf (not_le.2 hlt)
  · rw [habs]
    exact ⟨hnx.2 (huf.1 h).1, hu (huf.1 h).2⟩
  · rw [habs] at hle
    exact huf.2 ⟨hnx.1 h, hu' hle⟩

/-- A result in range is correct. -/
theorem roundsTo_of_inRange (h1 : 2 ^ top ≤ x) (h2 : x < 2 ^ (top + 1)) (h : ¬ LeavesRange rm neg x top) :
    RoundsTo rm (signFactor neg * x) (roundRat rm neg x top) := by
  have hx : 0 < x := (two_zpow_pos top).trans_le h1
  have hu := two_zpow_pos (lastPlace top)
  have hxt : x / 2 ^ lastPlace top * 2 ^ lastPlace top = x := div_mul_cancel₀ _ hu.ne'
  obtain ⟨hle, hge⟩ := significand_bounds (rm := rm) (neg := neg) h1 h2
  have hbits := mt (bits_ge_iff (rm := rm) (neg := neg) h1 h2).1 h
  obtain ⟨hfin, hsign, habs, heven⟩ := withSign_spec neg (by unfold lastPlace; omega) hle hge (not_le.1 hbits)
  have hw := fValue_of_abs hsign habs
  have hnear := nearest_of_grid hu (div_pos hx hu) hw heven (grid_of_finite h1)
  have hexact : x / 2 ^ lastPlace top = ⌊x / 2 ^ lastPlace top⌋₊ ↔
      signFactor neg * (roundNat rm neg (x / 2 ^ lastPlace top) * 2 ^ lastPlace top) = signFactor neg * x := by
    rw [← roundNat_eq_iff (rm := rm) (neg := neg), ← sub_eq_zero (b := signFactor neg * x), ← mul_sub, signFactor_mul_eq_zero,
      sub_eq_zero, eq_div_iff hu.ne']
  rw [hxt] at hnear
  unfold roundRat
  rw [if_neg hbits]
  refine roundsTo_of_finite hx hfin hsign hnear (fun hinf => h ((overflowsToInfinity_iff h1 h2).1 hinf).2)
    (lt_of_top_lt h2 (not_le.1 fun hl => h (.inl hl))) ?_ (tinyRat_lt h2) (tinyRat_of_le h1)
  rw [decide_eq_true_eq, hw]
  exact not_congr hexact

/-- The flags of an overflow. -/
theorem overflowFlags_spec : (flagOF ||| flagNX) &&& (flagNV ||| flagDZ) = 0 ∧ (flagOF ||| flagNX) &&& flagNX ≠ 0 ∧
    (flagOF ||| flagNX) &&& flagOF ≠ 0 ∧ (flagOF ||| flagNX) &&& flagUF = 0 := by decide

/-- The overflow of a mode that cuts: the largest finite number. -/
theorem roundsTo_of_largest (hcut : CutsOff rm neg) (hx : 2 ^ 128 ≤ x) (hno : ¬ OverflowsToInfinity rm (signFactor neg * x)) :
    RoundsTo rm (signFactor neg * x) (withSign neg 0x7F7FFFFF, flagOF ||| flagNX) := by
  obtain ⟨hnv, hnx, hof, huf⟩ := overflowFlags_spec
  have hpos : 0 < x := lt_of_lt_of_le (by norm_num) hx
  have habs : |signFactor neg * x| = x := by rw [abs_signFactor_mul, abs_of_pos hpos]
  obtain ⟨hfin, hsign, hmag, -⟩ := withSign_spec neg (q := 104) (sig := 2 ^ 24 - 1) (by decide) (by decide) (.inr (by decide))
    (by decide)
  have hw := fValue_of_abs hsign hmag
  have hmax : ((2 ^ 24 - 1 : ℕ) : ℚ) * 2 ^ (104 : ℤ) < x := lt_of_lt_of_le (by norm_num) hx
  refine roundsTo_of_fields (isNaN_false_of_isFinite hfin) (hsign.trans (decide_signFactor_mul_neg hpos).symm) (fun _ => ?_)
    (iff_of_false (Bool.eq_false_iff.1 (isInf_false_of_isFinite hfin)) hno) hnv
    (iff_of_true hnx (.inr fun he => hmax.ne ?_)) (iff_of_true hof (.inr (habs.symm ▸ hx)))
    (fun h => absurd huf h) fun _ hle => ?_
  · exact nearest_of_cutsOff hcut hw (by positivity) hmax.le fun v hv _ => abs_fValue_le hv
  · rw [← hmag, ← habs, ← he]
    rfl
  · rw [habs] at hle
    norm_num at hx hle
    linarith

/-- The overflow of every other mode: an infinity. -/
theorem roundsTo_of_infinity (hx : 2 ^ 127 ≤ x) (hinf : OverflowsToInfinity rm (signFactor neg * x)) :
    RoundsTo rm (signFactor neg * x) (infinity neg, flagOF ||| flagNX) := by
  obtain ⟨hnv, hnx, hof, huf⟩ := overflowFlags_spec
  have hpos : 0 < x := lt_of_lt_of_le (by norm_num) hx
  have habs : |signFactor neg * x| = x := by rw [abs_signFactor_mul, abs_of_pos hpos]
  obtain ⟨hsign, hexp, hfrac⟩ := withSign_fields neg (bits := 0x7F800000) (by norm_num)
  have hi : isInf (infinity neg) = true := isInf_iff.2 ⟨hexp, hfrac⟩
  have hfin : isFinite (infinity neg) = false := Bool.eq_false_iff.2 fun hf => isFinite_iff.1 hf hexp
  refine roundsTo_of_fields (isNaN_false_of_isInf hi) (hsign.trans (decide_signFactor_mul_neg hpos).symm)
    (fun hf => absurd (hfin.symm.trans hf) Bool.false_ne_true) (iff_of_true hi hinf) hnv (iff_of_true hnx (.inl hfin))
    (iff_of_true hof (.inl hfin)) (fun h => absurd huf h) fun _ hle => ?_
  rw [habs] at hle
  norm_num at hx hle
  linarith

/-- An overflow is correct. -/
theorem roundsTo_of_leavesRange (h1 : 2 ^ top ≤ x) (h2 : x < 2 ^ (top + 1)) (h : LeavesRange rm neg x top) :
    RoundsTo rm (signFactor neg * x) (roundRat rm neg x top) := by
  unfold roundRat
  rw [if_pos ((bits_ge_iff h1 h2).2 h)]
  rcases overflowResult_eq rm neg with ⟨hcut, hres⟩ | ⟨hnot, hres⟩
  · have htop : 128 ≤ top := h.resolve_right fun hr => roundNat_top_of_cutsOff hcut (scaled_lt h2) hr.2
    rw [hres]
    exact roundsTo_of_largest hcut (le_of_le_top h1 htop) fun hinf => ((overflowsToInfinity_iff h1 h2).1 hinf).1 hcut
  · have htop : 127 ≤ top := by rcases h with h | ⟨h, -⟩ <;> omega
    rw [hres]
    exact roundsTo_of_infinity (le_of_le_top h1 htop) ((overflowsToInfinity_iff h1 h2).2 ⟨hnot, h⟩)

/-- The result is the number correctly rounded. -/
theorem roundRat_roundsTo (rm : Rounding) (neg : Bool) (h1 : 2 ^ top ≤ x) (h2 : x < 2 ^ (top + 1)) :
    RoundsTo rm (signFactor neg * x) (roundRat rm neg x top) := by
  by_cases h : LeavesRange rm neg x top
  · exact roundsTo_of_leavesRange h1 h2 h
  · exact roundsTo_of_inRange h1 h2 h

end

end Sys2Proof.Machine
end

section
/-! SUPPORT. The arithmetic of binary32 rounds once (spec/43_rv32f_zfinx.md R327, R331, R333 to R335, R348, R349): what `roundF32`
is given is the exact result, or one that no number of 25 bits tells apart from it. -/

namespace Sys2Proof.Machine

/-! ### Numbers that rounding does not tell apart -/

/-- No number of 25 bits, zero included, separates `x` and `x'`: neither a significand of 24 bits nor the middle of two. -/
def SameSide (x x' : ℚ) : Prop :=
  ∀ (k : ℕ) (e : ℤ), k < 2 ^ 25 → (x < k * 2 ^ e ↔ x' < k * 2 ^ e) ∧ (x = k * 2 ^ e ↔ x' = k * 2 ^ e)

theorem SameSide.refl (x : ℚ) : SameSide x x := fun _ _ _ => ⟨Iff.rfl, Iff.rfl⟩

theorem SameSide.div_zpow {x x' : ℚ} (h : SameSide x x') (q : ℤ) : SameSide (x / 2 ^ q) (x' / 2 ^ q) := fun k e hk => by
  have hu := two_zpow_pos q
  rw [div_lt_iff₀ hu, div_lt_iff₀ hu, div_eq_iff hu.ne', div_eq_iff hu.ne', mul_assoc, ← two_zpow_add]
  exact h k (e + q) hk

section
variable {t t' : ℚ}

/-- Numbers of 24 bits on the same side of everything have the same integer part, and the same position in it. -/
theorem SameSide.floor_eq (h : SameSide t t') (ht : 0 ≤ t) (ht' : 0 ≤ t') (hlt : t' < 2 ^ 24) :
    ⌊t⌋₊ = ⌊t'⌋₊ ∧ (t < ⌊t'⌋₊ + 1 / 2 ↔ t' < ⌊t'⌋₊ + 1 / 2) ∧ (t = ⌊t'⌋₊ + 1 / 2 ↔ t' = ⌊t'⌋₊ + 1 / 2) ∧
      (t = ⌊t'⌋₊ ↔ t' = ⌊t'⌋₊) := by
  have h0 : t' < ((2 ^ 24 : ℕ) : ℚ) := by exact_mod_cast hlt
  have hn : ⌊t'⌋₊ < 2 ^ 24 := Nat.floor_lt' (by norm_num) |>.2 h0
  have hlow := h ⌊t'⌋₊ 0 (by omega)
  have hhigh := h (⌊t'⌋₊ + 1) 0 (by omega)
  have hmid := h (2 * ⌊t'⌋₊ + 1) (-1) (by omega)
  have hhalf : ((2 * ⌊t'⌋₊ + 1 : ℕ) : ℚ) * 2 ^ (-1 : ℤ) = ⌊t'⌋₊ + 1 / 2 := by push_cast; rw [zpow_neg_one]; ring
  rw [zpow_zero, mul_one] at hlow hhigh
  rw [hhalf] at hmid
  push_cast at hhigh
  refine ⟨(Nat.floor_eq_iff ht).2 ⟨?_, ?_⟩, hmid.1, hmid.2, hlow.2⟩
  · exact not_lt.1 (mt hlow.1.1 (not_lt.2 (Nat.floor_le ht')))
  · exact hhigh.1.2 (Nat.lt_floor_add_one t')

/-- They round alike, and exactly or not alike. -/
theorem SameSide.roundNat_eq (h : SameSide t t') (ht : 0 ≤ t) (ht' : 0 ≤ t') (hlt : t' < 2 ^ 24) (rm : Rounding) (neg : Bool) :
    roundNat rm neg t = roundNat rm neg t' ∧ (t ≠ ⌊t⌋₊ ↔ t' ≠ ⌊t'⌋₊) := by
  obtain ⟨hfloor, hmid, htie, hexact⟩ := h.floor_eq ht ht' hlt
  have heq : t - ⌊t'⌋₊ = 1 / 2 ↔ t' - ⌊t'⌋₊ = 1 / 2 := by rw [sub_eq_iff_eq_add', sub_eq_iff_eq_add', htie]
  have hle : 1 / 2 ≤ t - ⌊t'⌋₊ ↔ 1 / 2 ≤ t' - ⌊t'⌋₊ := by rw [le_sub_iff_add_le', le_sub_iff_add_le', ← not_lt, ← not_lt, hmid]
  have hgt : 1 / 2 < t - ⌊t'⌋₊ ↔ 1 / 2 < t' - ⌊t'⌋₊ := by
    rw [lt_iff_le_and_ne, lt_iff_le_and_ne, hle, ne_comm, ne_comm (a := (1 : ℚ) / 2), Ne, heq]
  have hne : t - ⌊t'⌋₊ ≠ 0 ↔ t' - ⌊t'⌋₊ ≠ 0 := by rw [sub_ne_zero, sub_ne_zero, Ne, hexact]
  have hup : goesUp rm neg ⌊t'⌋₊ (t - ⌊t'⌋₊) = goesUp rm neg ⌊t'⌋₊ (t' - ⌊t'⌋₊) := by
    unfold goesUp
    simp only [heq, hle, hgt, hne]
  rw [roundNat, roundNat, hfloor, hup]
  exact ⟨rfl, not_congr hexact⟩

end

/-! ### The model's rounding -/

section
variable {m : ℕ} {e : ℤ} {x : ℚ}

/-- The exponent of a number, and of one on the same side of everything. -/
theorem top_bounds (hm : m ≠ 0) (h : SameSide x (m * 2 ^ e)) :
    2 ^ ((Nat.log2 m : ℤ) + e) ≤ x ∧ x < 2 ^ ((Nat.log2 m : ℤ) + e + 1) ∧ (m : ℚ) * 2 ^ e < 2 ^ ((Nat.log2 m : ℤ) + e + 1) := by
  have hlow : (2 : ℚ) ^ ((Nat.log2 m : ℤ) + e) ≤ m * 2 ^ e := by
    rw [two_zpow_add, two_zpow_natCast]
    exact mul_le_mul_of_nonneg_right (Nat.cast_le.2 (Nat.log2_self_le hm)) (two_zpow_pos e).le
  have hhigh : (m : ℚ) * 2 ^ e < 2 ^ ((Nat.log2 m : ℤ) + e + 1) := by
    rw [add_right_comm, two_zpow_add, ← Nat.cast_succ, two_zpow_natCast]
    exact mul_lt_mul_of_pos_right (Nat.cast_lt.2 Nat.lt_log2_self) (two_zpow_pos e)
  have hside : ∀ p : ℤ, x < 2 ^ p ↔ (m : ℚ) * 2 ^ e < 2 ^ p := fun p => by simpa using (h 1 p (by norm_num)).1
  exact ⟨not_lt.1 (mt (hside _).1 (not_lt.2 hlow)), (hside _).2 hhigh, hhigh⟩

/-- What `roundAt` computes at a place where at most 24 bits are left. -/
theorem roundAt_of_sameSide (h : SameSide x (m * 2 ^ e)) (hx : 0 < x) (rm : Rounding) (neg : Bool) {q : ℤ}
    (hq : (m : ℚ) * 2 ^ e < 2 ^ (24 + q)) :
    roundAt rm neg m e q = (roundNat rm neg (x / 2 ^ q), decide (x / 2 ^ q ≠ ⌊x / 2 ^ q⌋₊)) := by
  have hu := two_zpow_pos q
  have hm : (0 : ℚ) ≤ m * 2 ^ e := mul_nonneg (Nat.cast_nonneg _) (two_zpow_pos e).le
  have hlt : (m : ℚ) * 2 ^ e / 2 ^ q < 2 ^ 24 := by
    rw [div_lt_iff₀ hu]
    rwa [two_zpow_add, show (2 : ℚ) ^ (24 : ℤ) = 2 ^ 24 from zpow_natCast 2 24] at hq
  obtain ⟨hr, hexact⟩ := (h.div_zpow q).roundNat_eq (div_nonneg hx.le hu.le) (div_nonneg hm hu.le) hlt rm neg
  rw [roundAt_eq, zpow_sub₀ (by norm_num), ← mul_div_assoc, hr, decide_eq_decide.2 hexact]

/-- The model's rounding, in terms of a number on the same side of everything. -/
theorem roundF32_eq_roundRat (hm : m ≠ 0) (h : SameSide x (m * 2 ^ e)) (rm : Rounding) (neg : Bool) :
    roundF32 rm neg m e = roundRat rm neg x (Nat.log2 m + e) := by
  obtain ⟨hlow, -, hlt⟩ := top_bounds hm h
  have hx : 0 < x := (two_zpow_pos _).trans_le hlow
  have hround : ∀ q : ℤ, (Nat.log2 m : ℤ) + e - 23 ≤ q →
      roundAt rm neg m e q = (roundNat rm neg (x / 2 ^ q), decide (x / 2 ^ q ≠ ⌊x / 2 ^ q⌋₊)) := fun q hq =>
    roundAt_of_sameSide h hx rm neg (hlt.trans_le (zpow_le_zpow_right₀ (by norm_num) (by omega)))
  have htiny : tinyAfterRounding rm neg m e (Nat.log2 m + e) = tinyRat rm neg x (Nat.log2 m + e) := by
    rw [tinyAfterRounding, hround _ le_rfl]
    rfl
  unfold roundF32
  dsimp only
  rw [hround _ (le_max_left ..), htiny]
  rfl

/-- The model's rounding is correct for every number that it does not tell apart from the one it is given. -/
theorem roundF32_roundsTo (hm : m ≠ 0) (h : SameSide x (m * 2 ^ e)) (rm : Rounding) (neg : Bool) :
    RoundsTo rm (signFactor neg * x) (roundF32 rm neg m e) := by
  obtain ⟨h1, h2, -⟩ := top_bounds hm h
  rw [roundF32_eq_roundRat hm h]
  exact roundRat_roundsTo rm neg h1 h2

end

/-- An integer times a power of two is its sign and its magnitude. -/
theorem signFactor_natAbs (v : ℤ) (y : ℚ) : signFactor (decide (v < 0)) * ((v.natAbs : ℚ) * y) = v * y := by
  have hc : ((v.natAbs : ℤ) : ℚ) = (v.natAbs : ℚ) := Int.cast_natCast _
  rcases lt_or_ge v 0 with hv | hv
  · rw [decide_eq_true hv, signFactor_true, ← hc, Int.ofNat_natAbs_of_nonpos hv.le]
    push_cast
    ring
  · rw [decide_eq_false (not_lt.2 hv), signFactor_false, one_mul, ← hc, Int.natAbs_of_nonneg hv]

/-- An exact sum that is not zero is rounded correctly. -/
theorem roundSum_roundsTo (rm : Rounding) (negX negY : Bool) {v e : ℤ} (h : (v : ℚ) * 2 ^ e ≠ 0) :
    RoundsTo rm ((v : ℚ) * 2 ^ e) (roundSum rm negX negY v e) := by
  have hv : v ≠ 0 := fun h0 => h (by rw [h0, Int.cast_zero, zero_mul])
  rw [roundSum, if_neg hv, ← signFactor_natAbs]
  exact roundF32_roundsTo (Int.natAbs_ne_zero.2 hv) (SameSide.refl _) rm _

/-- Settles O46: the model adds and multiplies exactly before it rounds. -/
theorem floatSumsAndProductsRoundOnce : Obligations.FloatSumsAndProductsRoundOnce := by
  intro m a b c ha hb hc
  refine ⟨fun h => ?_, fun h => ?_, fun h => ?_, fValue_fNeg a, (isFinite_fNeg a).trans ha⟩
  · obtain ⟨v, e, hv, heq⟩ := fAdd_of_finite ha hb m
    rw [← hv] at h ⊢
    rw [heq]
    exact roundSum_roundsTo m _ _ h
  · obtain ⟨hza, hzb⟩ := mul_ne_zero_iff.1 h
    rw [Ne, fValue_eq_zero_iff] at hza hzb
    rw [fMul_of_finite ha hb (Bool.eq_false_iff.2 hza) (Bool.eq_false_iff.2 hzb), fValue_mul]
    exact roundF32_roundsTo (mul_ne_zero (mt fMant_eq_zero_iff.1 hza) (mt fMant_eq_zero_iff.1 hzb)) (SameSide.refl _) m _
  · obtain ⟨v, e, hv, heq⟩ := fMulAdd_of_finite ha hb hc m
    rw [← hv] at h ⊢
    rw [heq]
    exact roundSum_roundsTo m _ _ h

/-! ### Results known to one unit, with a bit for the rest -/

section
variable {r : ℕ} {p : ℤ}

/-- No number of 25 bits lies inside a unit of a number of more bits. -/
theorem unit_gap (hr : 2 ^ 24 ≤ r) {k : ℕ} (hk : k < 2 ^ 25) (e : ℤ) :
    (k : ℚ) * 2 ^ e ≤ r * 2 ^ p ∨ (r + 1 : ℚ) * 2 ^ p ≤ k * 2 ^ e :=
  mul_zpow_gap (b := 24) hk (.inr hr)

/-- A unit with the bit for the rest clear and set. -/
theorem sticky_value (r : ℕ) (p : ℤ) : ((2 * r + 0 : ℕ) : ℚ) * 2 ^ (p - 1) = r * 2 ^ p ∧
    ((2 * r + 1 : ℕ) : ℚ) * 2 ^ (p - 1) = (r + 1 / 2) * 2 ^ p := by
  have hp : (2 : ℚ) ^ p = 2 ^ (p - 1) * 2 := by
    rw [show p = p - 1 + (1 : ℕ) by push_cast; ring, two_zpow_add, two_zpow_natCast]
    norm_num
  rw [hp]
  constructor <;> push_cast <;> ring

/-- Rounding cannot tell a number from its unit with a bit for the rest. -/
theorem sameSide_sticky {x : ℚ} (hr : 2 ^ 24 ≤ r) (hlow : r * 2 ^ p ≤ x) (hhigh : x < (r + 1) * 2 ^ p) :
    SameSide x ((2 * r + (if x = r * 2 ^ p then 0 else 1) : ℕ) * 2 ^ (p - 1)) := by
  obtain ⟨hclear, hset⟩ := sticky_value r p
  have hu := two_zpow_pos p
  split
  next h =>
    rw [hclear, ← h]
    exact SameSide.refl x
  next h =>
    rw [hset]
    have hlow' := lt_of_le_of_ne hlow (Ne.symm h)
    intro k e hk
    rcases unit_gap (p := p) hr hk e with hle | hge
    · exact ⟨iff_of_false (by linarith) (by linarith), iff_of_false (by linarith) fun he => by linarith⟩
    · exact ⟨iff_of_true (by linarith) (by linarith), iff_of_false (fun he => by linarith) fun he => by linarith⟩

end

/-! ### Quotients and integers -/

/-- The quotient of two finite numbers that are not zero (R334). -/
theorem fDiv_of_finite {a b : Word} (ha : isFinite a = true) (hb : isFinite b = true) (hza : isZero a = false)
    (hzb : isZero b = false) (m : Rounding) : fDiv m a b = roundF32 m (fSign a != fSign b)
      (2 * ((fMant a <<< 60) / fMant b) + (if (fMant a <<< 60) % fMant b = 0 then 0 else 1)) (fPow a - fPow b - 61) := by
  simp only [fDiv, isNaN_false_of_isFinite ha, isNaN_false_of_isFinite hb, isInf_false_of_isFinite ha,
    isInf_false_of_isFinite hb, hza, hzb, Bool.or_self, Bool.and_false, Bool.false_eq_true, if_false]

theorem fValue_div (a b : Word) : fValue a / fValue b =
    signFactor (fSign a != fSign b) * ((fMant a : ℚ) / fMant b * 2 ^ (fPow a - fPow b)) := by
  rw [fValue_eq, fValue_eq, signFactor_bne, zpow_sub₀ (by norm_num)]
  have hinv : (signFactor (fSign b))⁻¹ = signFactor (fSign b) := by cases fSign b <;> norm_num
  rw [div_eq_mul_inv, mul_inv, hinv, mul_inv]
  ring

/-- A quotient of natural numbers, to one unit and with a bit for the rest. -/
theorem sameSide_quotient {n l : ℕ} (hl : l ≠ 0) (hr : 2 ^ 24 ≤ n / l) (p : ℤ) :
    SameSide ((n : ℚ) / l * 2 ^ p) ((2 * (n / l) + (if n % l = 0 then 0 else 1) : ℕ) * 2 ^ (p - 1)) := by
  have hl0 : (l : ℚ) ≠ 0 := Nat.cast_ne_zero.2 hl
  have hu := two_zpow_pos p
  have hhigh : (n : ℚ) / l < (n / l : ℕ) + 1 := by
    rw [← Nat.floor_div_eq_div (K := ℚ)]
    exact Nat.lt_floor_add_one _
  have hexact : (n : ℚ) / l * 2 ^ p = ((n / l : ℕ) : ℚ) * 2 ^ p ↔ n % l = 0 := by
    rw [mul_left_inj' hu.ne', eq_comm, ← Nat.dvd_iff_mod_eq_zero]
    exact ⟨fun h => ⟨n / l, by
      rw [eq_div_iff hl0, mul_comm] at h
      exact_mod_cast h.symm⟩, fun h => Nat.cast_div h hl0⟩
  have h := sameSide_sticky hr (mul_le_mul_of_nonneg_right Nat.cast_div_le hu.le) (mul_lt_mul_of_pos_right hhigh hu)
  simpa only [hexact] using h

/-- The quotient of significands with 60 more bits has more bits than rounding looks at. -/
theorem le_quotient {k l : ℕ} (hk : k ≠ 0) (hl : l ≠ 0) (hlt : l < 2 ^ 24) : 2 ^ 24 ≤ (k <<< 60) / l := by
  rw [Nat.le_div_iff_mul_le (Nat.pos_of_ne_zero hl), Nat.shiftLeft_eq]
  calc 2 ^ 24 * l
    _ ≤ 1 * 2 ^ 60 := by omega
    _ ≤ k * 2 ^ 60 := Nat.mul_le_mul_right _ (Nat.pos_of_ne_zero hk)

/-- Those bits are in the exponent. -/
theorem shiftLeft_mul_zpow (k d : ℕ) (p : ℤ) : ((k <<< d : ℕ) : ℚ) * 2 ^ (p - d) = k * 2 ^ p := by
  have hp : (2 : ℚ) ^ p = (2 ^ d : ℕ) * 2 ^ (p - d) := by
    rw [← two_zpow_natCast, ← two_zpow_add, add_sub_cancel]
  rw [hp, Nat.shiftLeft_eq]
  push_cast
  ring

/-! ### The square root -/

/-- The search bit by bit finds the integer root. -/
theorem sqrtBits_spec {n : ℕ} : ∀ (k r : ℕ), r * r ≤ n → n < (r + 2 ^ k) * (r + 2 ^ k) →
    sqrtBits n k r * sqrtBits n k r ≤ n ∧ n < (sqrtBits n k r + 1) * (sqrtBits n k r + 1)
  | 0, _, hle, hlt => ⟨hle, hlt⟩
  | k + 1, r, hle, hlt => by
    unfold sqrtBits
    split
    next h => exact sqrtBits_spec k _ h (by rwa [add_assoc, ← two_mul, ← pow_succ'])
    next h => exact sqrtBits_spec k r hle (not_le.1 h)

/-- A pattern whose number is positive. -/
theorem isFinite_pos {a : Word} (h : 0 < fValue a) : isZero a = false ∧ fSign a = false := by
  refine ⟨Bool.eq_false_iff.2 fun hz => h.ne' (fValue_eq_zero_iff.2 hz), Bool.eq_false_iff.2 fun hs => ?_⟩
  have hm : (0 : ℚ) ≤ fMant a * 2 ^ fPow a := mul_nonneg (Nat.cast_nonneg _) (two_zpow_pos _).le
  rw [fValue_eq, hs, signFactor_true] at h
  linarith

/-- The radicand of a positive finite number: an integer of 61 to 85 bits times an even power of two (R335). -/
theorem fSqrt_of_pos {a : Word} (ha : isFinite a = true) (h : 0 < fValue a) (m : Rounding) :
    ∃ (n : ℕ) (p : ℤ), 2 ^ 60 ≤ n ∧ n < 2 ^ 85 ∧ fValue a = n * (2 ^ p) ^ 2 ∧
      fSqrt m a = roundF32 m false
        (2 * sqrtBits n 44 0 + (if sqrtBits n 44 0 * sqrtBits n 44 0 = n then 0 else 1)) (p - 1) := by
  obtain ⟨hz, hs⟩ := isFinite_pos h
  have hm : fMant a ≠ 0 := fun h0 => by simp [fMant_eq_zero_iff.1 h0] at hz
  have hlt := fMant_lt a
  have hsq : ∀ p : ℤ, ((2 : ℚ) ^ p) ^ 2 = 2 ^ (p + p) := fun p => by rw [sq, two_zpow_add]
  have hv : fValue a = fMant a * 2 ^ fPow a := by rw [fValue_eq, hs, signFactor_false, one_mul]
  have hval : ∀ (k d : ℕ) (p : ℤ), p + p + d = fPow a → k = fMant a * 2 ^ d → fValue a = k * (2 ^ p) ^ 2 := by
    rintro k d p hp rfl
    rw [hv, hsq, ← hp, two_zpow_add _ (d : ℤ), two_zpow_natCast]
    push_cast
    ring
  by_cases hodd : fPow a % 2 = 0
  · have hb : (fPow a % 2 != 0) = false := by simp [hodd]
    refine ⟨fMant a <<< 60, (fPow a - 60) / 2, ?_, ?_, hval _ 60 _ (by omega) (Nat.shiftLeft_eq ..), ?_⟩
    · rw [Nat.shiftLeft_eq]; omega
    · rw [Nat.shiftLeft_eq]; omega
    · simp only [fSqrt, isNaN_false_of_isFinite ha, isInf_false_of_isFinite ha, hz, hs, hb, Bool.false_eq_true, if_false]
  · have hb : (fPow a % 2 != 0) = true := by simpa using hodd
    refine ⟨(2 * fMant a) <<< 60, (fPow a - 1 - 60) / 2, ?_, ?_, hval _ 61 _ (by omega) ?_, ?_⟩
    · rw [Nat.shiftLeft_eq]; omega
    · rw [Nat.shiftLeft_eq]; omega
    · rw [Nat.shiftLeft_eq]; ring
    · simp only [fSqrt, isNaN_false_of_isFinite ha, isInf_false_of_isFinite ha, hz, hs, hb, Bool.false_eq_true, if_false,
        if_true]

/-- The root to one unit, with a bit for the rest, is on the same side of every number of 25 bits as the root. -/
theorem sticky_root {n r : ℕ} (hr : 2 ^ 24 ≤ r) (hle : r * r ≤ n) (hlt : n < (r + 1) * (r + 1)) (p : ℤ) {y : ℚ} (hy : 0 < y)
    (hbits : ∃ k : ℕ, ∃ e : ℤ, k < 2 ^ 25 ∧ y = (k : ℚ) * 2 ^ e) :
    ((2 * r + (if r * r = n then 0 else 1) : ℕ) * 2 ^ (p - 1) < y ↔ n * (2 ^ p) ^ 2 < y ^ 2) ∧
      ((2 * r + (if r * r = n then 0 else 1) : ℕ) * 2 ^ (p - 1) = y ↔ n * (2 ^ p) ^ 2 = y ^ 2) := by
  obtain ⟨hclear, hset⟩ := sticky_value r p
  have hu := two_zpow_pos p
  split
  next h =>
    have hx : (0 : ℚ) ≤ r * 2 ^ p := by positivity
    rw [hclear, ← h, show ((r * r : ℕ) : ℚ) * (2 ^ p) ^ 2 = (r * 2 ^ p) ^ 2 by push_cast; ring]
    exact ⟨(sq_lt_sq₀ hx hy.le).symm, (sq_eq_sq₀ hx hy.le).symm⟩
  next h =>
    have hlow : ((r : ℚ) * 2 ^ p) ^ 2 < n * (2 ^ p) ^ 2 := by
      rw [mul_pow, mul_lt_mul_iff_left₀ (by positivity), sq]
      exact_mod_cast lt_of_le_of_ne hle h
    have hhigh : (n : ℚ) * (2 ^ p) ^ 2 < ((r + 1) * 2 ^ p) ^ 2 := by
      rw [mul_pow, mul_lt_mul_iff_left₀ (by positivity), sq]
      exact_mod_cast hlt
    rw [hset]
    obtain ⟨k, e, hk, rfl⟩ := hbits
    rcases unit_gap (p := p) hr hk e with hdown | hup
    · have hsq := pow_le_pow_left₀ hy.le hdown 2
      exact ⟨iff_of_false (by linarith) (by linarith), iff_of_false (fun he => by linarith) fun he => by linarith⟩
    · have hsq := pow_le_pow_left₀ (show (0 : ℚ) ≤ (r + 1) * 2 ^ p by positivity) hup 2
      exact ⟨iff_of_true (by linarith) (by linarith), iff_of_false (fun he => by linarith) fun he => by linarith⟩

/-- Settles O47: the quotient and the root are known to more bits than rounding looks at, an integer exactly. -/
theorem floatQuotientsRootsRoundOnce : Obligations.FloatQuotientsRootsRoundOnce := by
  intro m a b v ha hb
  refine ⟨fun hza hzb => ?_, fun hv _ => ?_, fun hpos => ?_⟩
  · rw [Ne, fValue_eq_zero_iff] at hza hzb
    have hma := mt fMant_eq_zero_iff.1 hza
    have hmb := mt fMant_eq_zero_iff.1 hzb
    have hr := le_quotient hma hmb (fMant_lt b)
    have hside := sameSide_quotient hmb hr (fPow a - fPow b - (60 : ℕ))
    have hshift := shiftLeft_mul_zpow (fMant a) 60 (fPow a - fPow b)
    rw [div_mul_eq_mul_div, hshift, mul_div_right_comm, sub_sub] at hside
    rw [fDiv_of_finite ha hb (Bool.eq_false_iff.2 hza) (Bool.eq_false_iff.2 hzb), fValue_div]
    exact roundF32_roundsTo (by omega) hside m _
  · have hx : ((v : ℚ) * 2 ^ (0 : ℤ)) = v := by rw [zpow_zero, mul_one]
    rw [fOfInt, if_neg hv, ← hx, ← signFactor_natAbs]
    exact roundF32_roundsTo (Int.natAbs_ne_zero.2 hv) (SameSide.refl _) m _
  · obtain ⟨n, p, hlow, hhigh, hval, heq⟩ := fSqrt_of_pos ha hpos m
    obtain ⟨hle, hlt⟩ := sqrtBits_spec (n := n) 44 0 (by omega) (by omega)
    rw [heq, hval]
    generalize sqrtBits n 44 0 = r at *
    have hr : 2 ^ 24 ≤ r := by
      by_contra hsmall
      have := Nat.mul_le_mul (show r + 1 ≤ 2 ^ 24 by omega) (show r + 1 ≤ 2 ^ 24 by omega)
      omega
    have hn : 2 * r + (if r * r = n then 0 else 1) ≠ 0 := by omega
    have hround := roundF32_roundsTo (e := p - 1) hn (SameSide.refl _) m false
    rw [signFactor_false, one_mul] at hround
    exact ⟨_, mul_pos (Nat.cast_pos.2 (Nat.pos_of_ne_zero hn)) (two_zpow_pos _), hround,
      fun y hy hbits => sticky_root hr hle hlt p hy hbits⟩

end Sys2Proof.Machine
end

section
/-! SUPPORT. The Xcv loads and stores and `cv.elw` (spec/44_xcv_mem_elw.md), and where the instructions of the custom opcodes exist:
all but `cv.elw` are guarded by COREV_PULP alone (44 R370, 45 R410, 46 R440, 47 R510, 48 R540). -/

namespace Sys2Proof.Machine

/-! ### Where the Xcv instructions exist -/

section
variable {s : State} {i : Instr} {w : Word}

theorem ifPulp_of_present (h : s.cfg.corevPulp = true) (r : Result) : ifPulp s r = r := if_pos h

theorem ifPulp_of_absent (h : s.cfg.corevPulp = false) (r : Result) : ifPulp s r = illegal s :=
  if_neg (Bool.eq_false_iff.1 h)

/-- The major opcodes that the RISC-V standard leaves to custom extensions, which Xcv uses (30_encoding R164). -/
def customOpcodes : List (BitVec 7) := [0x0B#7, 0x2B#7, 0x5B#7, 0x7B#7]

theorem opcode_word32 (f7 : BitVec 7) (rs2 rs1 : Reg) (f3 : BitVec 3) (rd : Reg) (op : BitVec 7) :
    (word32 f7 rs2 rs1 f3 rd op).extractLsb' 0 7 = op :=
  (extract_low _ op 0 7 (by decide)).trans BitVec.extractLsb'_eq_self

/-- A standard opcode makes no custom word. -/
theorem not_custom_of_word32 {f7 : BitVec 7} {rs2 rs1 rd : Reg} {f3 : BitVec 3} {op : BitVec 7}
    (he : Code.full (word32 f7 rs2 rs1 f3 rd op) = .full w) (hop : op ∉ customOpcodes) :
    w.extractLsb' 0 7 ∉ customOpcodes := by
  cases he
  rwa [opcode_word32]

/-- Every instruction of the custom opcodes but `cv.elw` is what COREV_PULP guards. -/
theorem exec_of_custom (he : encode i = .full w) (hop : w.extractLsb' 0 7 ∈ customOpcodes)
    (hne : ∀ rd rs1 imm, i ≠ .cvElw rd rs1 imm) : ∃ r, exec i s = ifPulp s r := by
  cases i with
  | cvElw rd rs1 imm => exact absurd rfl (hne rd rs1 imm)
  | cAddi4spn | cLw | cSw | cFlw | cFsw | cNop | cAddi | cJal | cLi | cAddi16sp | cLui | cSrli | cSrai | cAndi | cSub | cXor
  | cOr | cAnd | cJ | cBeqz | cBnez | cSlli | cLwsp | cFlwsp | cJr | cMv | cEbreak | cJalr | cAdd | cSwsp | cFswsp =>
    cases he -- a parcel, not a word
  | lui | auipc | jal | jalr | beq | bne | blt | bge | bltu | bgeu | lb | lh | lw | lbu | lhu | sb | sh | sw | addi | slti
  | sltiu | xori | ori | andi | slli | srli | srai | add | sub | sll | slt | sltu | xor | srl | sra | or | and | ecall | ebreak
  | mul | mulh | mulhsu | mulhu | div | divu | rem | remu | csrrw | csrrs | csrrc | csrrwi | csrrsi | csrrci | fence | fenceI
  | mret | dret | wfi | flw | fsw | fmaddS | fmsubS | fnmsubS | fnmaddS | faddS | fsubS | fmulS | fdivS | fsqrtS | fsgnjS
  | fsgnjnS | fsgnjxS | fminS | fmaxS | fcvtWS | fcvtWuS | fmvXW | feqS | fltS | fleS | fclassS | fcvtSW | fcvtSWu | fmvWX =>
    exact absurd hop (not_custom_of_word32 he (by decide))
  | _ => exact ⟨_, rfl⟩

/-! ### Loads and stores -/

/-- A post-incremented load, where it exists (R371): the base register is written first, so the loaded value wins. -/
theorem completes_postLoad {rd rs1 : Reg} {off v : Word} (hp : s.cfg.corevPulp = true) (h : exec i s = postLoad rd rs1 off v s) :
    ∃ t, exec i s = .next t ∧
      (∀ q : Reg, t.reg q = if q = 0 then 0 else if q = rd then v else if q = rs1 then s.reg rs1 + off else s.reg q) ∧
      t.f = s.f ∧ KeepsMemory s t ∧ Completes s s t 4 none evLoad := by
  have he : Retired.events { load := true } = evLoad := by simp [Retired.events]
  refine ⟨_, h.trans (ifPulp_of_present hp _), fun q => ?_, ?_, fun a => ?_,
    he ▸ (State.retire_completes s _ { load := true } rfl).of_frame ?_⟩
  · rw [State.retire_reg, State.reg_setReg, State.reg_setReg]
    by_cases hq : q = 0
    · simp only [if_pos hq]
    · simp only [if_neg hq]
  · rw [State.retire_f, State.setReg_f, State.setReg_f]
  · rw [State.retire_mem, State.setReg_mem, State.setReg_mem]
  · rw [State.setReg_frame, State.setReg_frame]

/-- An indexed load, where it exists. -/
theorem loads_of_ifPulp {rd : Reg} {v : Word} (hp : s.cfg.corevPulp = true) (h : exec i s = ifPulp s (loadTo 4 rd v s)) :
    Loads s i 4 rd v :=
  loads_of_loadTo (h.trans (ifPulp_of_present hp _)) rfl

end

/-! ### The event load -/

section
variable {s : State} {w : EventRead}

theorem eventLoad_of_absent (h : s.cfg.corevCluster = false) : eventLoad w s = illegal s := by
  unfold eventLoad
  rw [h]
  rfl

theorem eventLoad_of_response (h : s.cfg.corevCluster = true) (hr : s.dataStall = false) :
    eventLoad w s = loadTo 4 w.rd (s.loadWord (s.addr w.rs1 w.imm)) s := by
  unfold eventLoad
  rw [h, hr]
  rfl

theorem eventLoad_of_stall (h : s.cfg.corevCluster = true) (hr : s.dataStall = true) :
    eventLoad w s = .next (s.waitForEvent w) := by
  unfold eventLoad
  rw [h, hr]
  rfl

/-- What keeps a hart awake whose `cv.elw` waits (R400), as the claim lists it: in Debug Mode, where no trigger matches, it is
awake already. -/
theorem State.waitForEvent_awake_iff : (s.waitForEvent w).sleeping = false ↔
    s.debugReq = true ∨ s.debugPending = true ∨ s.debugMode = true ∨ s.stepPhase = .armed ∨
      (s.tdata1.getLsbD 2 = true ∧ s.pc = s.tdata2) := by
  cases hd : s.debugMode
  · simp only [State.waitForEvent, State.debugRequested, State.triggerAt, hd, Bool.not_eq_false', Bool.or_eq_true,
      Bool.and_eq_true, beq_iff_eq, Bool.not_false, Bool.false_eq_true, true_and, false_or, or_false, or_assoc]
  · simp [State.waitForEvent, hd]

/-- Without its response, a debug request and an interrupt that it may take, a sleeping `cv.elw` sleeps on (R881). -/
theorem State.not_wakes_of_waiting (hw : s.elwWaiting = some w) (hr : s.dataStall = true) (hq : s.debugReq = false)
    (hn : s.debugPending = false) (hi : s.cfg.elwInterruptible = true → s.interruptToTake = none) : s.wakes = false := by
  have hint : (s.cfg.elwInterruptible && s.interruptToTake.isSome) = false := by
    cases he : s.cfg.elwInterruptible
    · rfl
    · rw [hi he]; rfl
  unfold State.wakes State.elwWakes State.debugRequested
  rw [hw, hr, hq, hn, hint]
  rfl

/-- A hart that sleeps and does not wake stays as it is, its clock on or off (60_exceptions R880, R881). -/
theorem step_of_asleep (hl : s.cfg.legal = true) (hf : s.fetchEnabled = true) (hs : s.sleeping = true)
    (hw : s.wakes = false) : step s = .next s := by
  rw [step_of_enabled hl hf]
  unfold State.runningStep
  rw [hs, hw]
  exact ite_self _

/-- A `cv.elw` that waits goes on as the instruction that it is (R400). -/
theorem step_of_waiting (hw : s.elwWaiting = some w) (hruns : Runs s) (hb : Attends s → s.beginStep.boundary = none) :
    step s = runInstr (.cvElw w.rd w.rs1 w.imm) s.beginStep := by
  rw [step_of_runs hruns, State.awakeStep_of_none hb, hw]
  rfl

end

/-- An instruction that runs to a next state: refused if it violates a constraint of the hardware loops (45_xcv_hwloop R414). -/
theorem runInstr_of_next {i : Instr} {s t : State} (h : exec i s = .next t) :
    runInstr i s = if loopViolation i s t then .refused .hwLoopViolation else .next (s.afterStep t) := by
  unfold runInstr
  rw [h]

/-! ### The statements -/

/-- Settles O23: COREV_PULP and COREV_CLUSTER are what guards these instructions. -/
theorem xcvIllegalWhenAbsent : Obligations.XcvIllegalWhenAbsent := by
  intro s i
  constructor
  · rintro hp ⟨w, hw, hop⟩ hne
    obtain ⟨r, hx⟩ := exec_of_custom (s := s) hw hop hne
    exact raises_of_raise (hx.trans (ifPulp_of_absent hp r))
  · intro hc rd rs1 imm
    exact raises_of_raise (eventLoad_of_absent hc)

/-- Settles O50: the three forms of a load differ in the address and in what the base register receives, not in the value. -/
theorem xcvLoads : Obligations.XcvLoads := by
  intro s rd rs1 rs2 imm hp a byte hw word post forms
  exact
    ⟨fun _ => State.loadByte_of_hasData,
      ⟨completes_postLoad hp rfl, completes_postLoad hp rfl, loads_of_ifPulp hp rfl⟩,
      ⟨completes_postLoad hp rfl, completes_postLoad hp rfl, loads_of_ifPulp hp rfl⟩,
      ⟨completes_postLoad hp rfl, completes_postLoad hp rfl, loads_of_ifPulp hp rfl⟩,
      ⟨completes_postLoad hp rfl, completes_postLoad hp rfl, loads_of_ifPulp hp rfl⟩,
      ⟨completes_postLoad hp rfl, completes_postLoad hp rfl, loads_of_ifPulp hp rfl⟩⟩

/-- Settles O51: each form is the store at its address, with the base register written or, for x0, none. -/
theorem xcvStores : Obligations.XcvStores := by
  intro s rs2 rs1 rs3 imm hp hw a v x forms
  exact
    ⟨⟨stores_of_storeByte hw (ifPulp_of_present hp _),
        stores_of_storeByte hw (ifPulp_of_present hp _),
        stores_of_storeByte hw (ifPulp_of_present hp _)⟩,
      ⟨stores_of_storeHalf hw (ifPulp_of_present hp _),
        stores_of_storeHalf hw (ifPulp_of_present hp _),
        stores_of_storeHalf hw (ifPulp_of_present hp _)⟩,
      ⟨stores_of_storeWord hw (ifPulp_of_present hp _),
        stores_of_storeWord hw (ifPulp_of_present hp _),
        stores_of_storeWord hw (ifPulp_of_present hp _)⟩⟩

end Sys2Proof.Machine

namespace Sys2Proof

open Machine

/-- Settles O52: the event load by its response, and the waiting hart by what a step of it can be. -/
theorem eventLoad : Obligations.EventLoad := by
  intro s rd rs1 imm hc a i w b
  refine ⟨fun _ => State.loadByte_of_hasData, fun hr => loads_of_loadTo (eventLoad_of_response hc hr) rfl,
    fun hr => ⟨_, eventLoad_of_stall hc hr, State.waitForEvent_awake_iff (w := w)⟩, fun hw hruns hb t ht => ?_,
    fun hw hl hf hs hr hq hn hi => step_of_asleep hl hf hs (State.not_wakes_of_waiting hw hr hq hn hi)⟩
  have hstep : step s = if loopViolation i b t then .refused .hwLoopViolation else .next (b.afterStep t) :=
    (step_of_waiting hw hruns hb).trans (runInstr_of_next ht)
  exact ⟨fun hv => by rw [hstep, hv]; rfl, fun hv => by rw [hstep, hv]; rfl⟩

end Sys2Proof
end

section
/-! SUPPORT. The hardware loops (spec/45_xcv_hwloop.md): what their instructions write (R415 to R422), and each test of the model for
a violation (R412, R414) as the claim words it. -/

namespace Sys2Proof.Machine

/-! ### Writing a register set -/

section
variable {s : State} {i : Instr} {l : BitVec 1}

theorem uimmWords_eq_ofNat {n : Nat} (u : BitVec n) : uimmWords u = BitVec.ofNat 32 (4 * u.toNat) := by
  rw [uimmWords, ← BitVec.ofNat_toNat, toNat_append_zero, Nat.mul_comm]
  rfl

/-- Replacing register set `l` by what `f` makes of it leaves the other set alone. -/
theorem State.setLoop_loop (s : State) (l : BitVec 1) (f : HwLoop → HwLoop) :
    s.setLoop l (f (s.loop l)) = if l = 0 then { s with loop0 := f s.loop0 } else { s with loop1 := f s.loop1 } := by
  rcases bit_cases l with rfl | rfl <;> rfl

/-- A hardware-loop instruction, where it exists (R410), completes over the register set that it replaces. -/
theorem completesWith_setLoopTo {v : HwLoop} (f : HwLoop → HwLoop) (hp : s.cfg.corevPulp = true)
    (h : exec i s = setLoopTo l v s) (hv : v = f (s.loop l)) :
    CompletesWith (if l = 0 then { s with loop0 := f s.loop0 } else { s with loop1 := f s.loop1 }) s i 0 0 4 none 0 := by
  rw [← State.setLoop_loop s l f, ← hv]
  exact completesWith_retire {} rfl (by simp [Retired.events]) (State.setLoop_x ..) (State.setLoop_f ..)
    (State.setLoop_mem ..) (h.trans (ifPulp_of_present hp _))

end

/-! ### Which registers an instruction writes -/

/-- `i` writes the start or the end address of loop `l` (R415 to R418, R421, R422). -/
def SetsBounds (i : Instr) (l : BitVec 1) : Prop :=
  ∃ (r : Reg) (u : BitVec 12) (v : BitVec 5),
    i ∈ [.cvStarti l u, .cvStart l r, .cvEndi l u, .cvEnd l r, .cvSetupi l u v, .cvSetup l r u]

/-- `i` writes the count of loop `l` (R419 to R422). -/
def SetsCount (i : Instr) (l : BitVec 1) : Prop :=
  ∃ (r : Reg) (u : BitVec 12) (v : BitVec 5), i ∈ [.cvCounti l u, .cvCount l r, .cvSetupi l u v, .cvSetup l r u]

section
variable {i : Instr} {l : BitVec 1}

theorem setsBounds_iff : SetsBounds i l ↔ ∃ c, loopWrite i = some ⟨l, true, c⟩ := by
  constructor
  · rintro ⟨r, u, v, hi⟩
    simp only [List.mem_cons, List.not_mem_nil, or_false] at hi
    rcases hi with rfl | rfl | rfl | rfl | rfl | rfl <;> exact ⟨_, rfl⟩
  · rintro ⟨c, hc⟩
    unfold loopWrite at hc
    split at hc <;> cases hc
    case h_1 u => exact ⟨0, u, 0, by simp⟩
    case h_2 r => exact ⟨r, 0, 0, by simp⟩
    case h_3 u => exact ⟨0, u, 0, by simp⟩
    case h_4 r => exact ⟨r, 0, 0, by simp⟩
    case h_7 u v => exact ⟨0, u, v, by simp⟩
    case h_8 r u => exact ⟨r, u, 0, by simp⟩

theorem setsCount_iff : SetsCount i l ↔ ∃ b, loopWrite i = some ⟨l, b, true⟩ := by
  constructor
  · rintro ⟨r, u, v, hi⟩
    simp only [List.mem_cons, List.not_mem_nil, or_false] at hi
    rcases hi with rfl | rfl | rfl | rfl <;> exact ⟨_, rfl⟩
  · rintro ⟨b, hb⟩
    unfold loopWrite at hb
    split at hb <;> cases hb
    case h_5 u => exact ⟨0, u, 0, by simp⟩
    case h_6 r => exact ⟨r, 0, 0, by simp⟩
    case h_7 u v => exact ⟨0, u, v, by simp⟩
    case h_8 r u => exact ⟨r, u, 0, by simp⟩

/-- A hardware-loop instruction writes bounds or a count. -/
theorem bounds_or_count_of_loopWrite {w : LoopWrite} (h : loopWrite i = some w) : w.bounds = true ∨ w.count = true := by
  unfold loopWrite at h
  split at h <;> cases h
  case h_5 | h_6 => exact .inr rfl
  all_goals exact .inl rfl

/-- The claim's two kinds of writes, by what the model says an instruction writes. -/
theorem sets_of_loopWrite {w : LoopWrite} (h : loopWrite i = some w) :
    (SetsBounds i l ↔ l = w.l ∧ w.bounds = true) ∧ (SetsCount i l ↔ l = w.l ∧ w.count = true) := by
  rw [setsBounds_iff, setsCount_iff, h]
  obtain ⟨k, b, c⟩ := w
  simp [eq_comm]

theorem sets_or_of_loopWrite {w : LoopWrite} (h : loopWrite i = some w) : SetsBounds i l ∨ SetsCount i l ↔ l = w.l := by
  rw [(sets_of_loopWrite h).1, (sets_of_loopWrite h).2, ← and_or_left]
  exact and_iff_left (bounds_or_count_of_loopWrite h)

theorem not_sets_of_loopWrite (h : loopWrite i = none) : ¬ SetsBounds i l ∧ ¬ SetsCount i l := by
  simp [setsBounds_iff, setsCount_iff, h]

theorem writesLoop_iff : writesLoop i l = true ↔ SetsBounds i l ∨ SetsCount i l := by
  unfold writesLoop
  split
  next w hw => rw [sets_or_of_loopWrite hw, beq_iff_eq, eq_comm]
  next hn => simp [not_sets_of_loopWrite hn]

end

/-! ### What may not stand in a body (R412 items 9 to 13) -/

/-- `i` is a word with one of the opcodes BRANCH, JALR and JAL (30_encoding R164), or an immediate branch of Xcv. -/
def JumpsAsWord (i : Instr) : Prop :=
  (∃ w, encode i = .full w ∧ w.extractLsb' 0 7 ∈ [0x63#7, 0x67#7, 0x6F#7]) ∨
    ∃ (r : Reg) (u : BitVec 5) (m : BitVec 12), i = .cvBeqimm r u m ∨ i = .cvBneimm r u m

/-- `i` may not stand in the body of loop `l`. -/
def ForbiddenInBody (i : Instr) (l : BitVec 1) : Prop :=
  (∃ p, encode i = .half p) ∨ JumpsAsWord i ∨ (∃ w, encode i = .full w ∧ w.extractLsb' 0 7 = 0x0F) ∨
    i ∈ [.mret, .dret, .wfi] ∨ SetsBounds i l ∨ SetsCount i l

section
variable {i : Instr} {l : BitVec 1}

theorem isCompressed_iff : isCompressed i = true ↔ ∃ p, encode i = .half p := by
  unfold isCompressed
  split
  next p hp => simp [hp]
  next w hw => simp [hw]

theorem decode32_of_encode {w : Word} (h : encode i = .full w) : decode32 w = .ok i := by
  have hd := Laws.RoundTrip.decodeCode_encode i (wellFormed_of_encode_full h)
  rwa [h] at hd

section
variable {f7 : BitVec 7} {rs2 rs1 : Reg} {f3 : BitVec 3} {rd : Reg}

theorem isJumpOrBranch_of_decodeBranch (h : decodeBranch f7 rs2 rs1 f3 rd = .ok i) : isJumpOrBranch i = true := by
  unfold decodeBranch at h
  split at h
  case h_7 => cases h
  all_goals cases h; rfl

theorem isJumpOrBranch_of_decodeJalr (h : decodeJalr f7 rs2 rs1 f3 rd = .ok i) : isJumpOrBranch i = true := by
  unfold decodeJalr at h
  split at h
  · cases h; rfl
  · cases h

theorem isFenceOrPrivileged_of_decodeMiscMem (h : decodeMiscMem f7 rs2 rs1 f3 rd = .ok i) : isFenceOrPrivileged i = true := by
  unfold decodeMiscMem at h
  split at h
  case h_3 => cases h
  all_goals cases h; rfl

end

/-- The decoder reads only jumps and branches from the opcodes BRANCH, JALR and JAL (30_encoding R164). -/
theorem isJumpOrBranch_of_opcode {w : Word} (h : encode i = .full w) (hop : w.extractLsb' 0 7 ∈ [0x63#7, 0x67#7, 0x6F#7]) :
    isJumpOrBranch i = true := by
  have hd := decode32_of_encode h
  unfold decode32 at hd
  simp only [List.mem_cons, List.not_mem_nil, or_false] at hop
  rcases hop with ho | ho | ho <;> rw [ho] at hd
  · exact isJumpOrBranch_of_decodeBranch hd
  · exact isJumpOrBranch_of_decodeJalr hd
  · cases hd; rfl

/-- The decoder reads only fences from the opcode MISC-MEM. -/
theorem isFenceOrPrivileged_of_opcode {w : Word} (h : encode i = .full w) (hop : w.extractLsb' 0 7 = 0x0F) :
    isFenceOrPrivileged i = true := by
  have hd := decode32_of_encode h
  unfold decode32 at hd
  rw [hop] at hd
  exact isFenceOrPrivileged_of_decodeMiscMem hd

theorem full_of_isJumpOrBranch (h : isJumpOrBranch i = true) : (∃ p, encode i = .half p) ∨ JumpsAsWord i := by
  unfold isJumpOrBranch at h
  split at h
  case h_17 => cases h
  case h_9 | h_10 | h_11 | h_12 | h_13 | h_14 => exact .inl ⟨_, rfl⟩
  case h_15 r u m => exact .inr (.inr ⟨r, u, m, .inl rfl⟩)
  case h_16 r u m => exact .inr (.inr ⟨r, u, m, .inr rfl⟩)
  all_goals exact .inr (.inl ⟨_, rfl, by rw [opcode_word32]; decide⟩)

theorem isCompressed_or_isJumpOrBranch_iff :
    isCompressed i = true ∨ isJumpOrBranch i = true ↔ (∃ p, encode i = .half p) ∨ JumpsAsWord i := by
  rw [isCompressed_iff]
  constructor
  · exact Or.rec .inl full_of_isJumpOrBranch
  · rintro (hp | ⟨w, hw, hop⟩ | ⟨r, u, m, rfl | rfl⟩)
    · exact .inl hp
    · exact .inr (isJumpOrBranch_of_opcode hw hop)
    · exact .inr rfl
    · exact .inr rfl

theorem isFenceOrPrivileged_iff : isFenceOrPrivileged i = true ↔
    (∃ w, encode i = .full w ∧ w.extractLsb' 0 7 = 0x0F) ∨ i ∈ [.mret, .dret, .wfi] := by
  constructor
  · intro h
    cases i with
    | fence | fenceI => exact .inl ⟨_, rfl, opcode_word32 ..⟩
    | mret | dret | wfi => exact .inr (by simp)
    | _ => cases h
  · rintro (⟨w, hw, hop⟩ | hi)
    · exact isFenceOrPrivileged_of_opcode hw hop
    · simp only [List.mem_cons, List.not_mem_nil, or_false] at hi
      rcases hi with rfl | rfl | rfl <;> rfl

theorem forbiddenInBody_iff : forbiddenInBody i l = true ↔ ForbiddenInBody i l := by
  unfold forbiddenInBody ForbiddenInBody
  rw [Bool.or_eq_true, Bool.or_eq_true, Bool.or_eq_true, isCompressed_or_isJumpOrBranch_iff, isFenceOrPrivileged_iff,
    writesLoop_iff]
  simp only [or_assoc]

end

/-! ### Writing the loop registers where it is not allowed (R412 items 1, 3, 4, 6, 7) -/

/-- Loop `l` of `t` counts with bounds that are not allowed (R412 items 3, 6 and 7). -/
def CountsBadly (t : State) (l : BitVec 1) : Prop :=
  (t.loop l).count ≠ 0 ∧
    ((t.loop l).stop.toNat < (t.loop l).start.toNat + 12 ∨
      (t.loop0.count ≠ 0 ∧ t.loop1.count ≠ 0 ∧ t.loop1.stop.toNat < t.loop0.stop.toNat + 8))

section
variable {s t : State} {i : Instr} {l : BitVec 1}

theorem badCount_iff : badCount t l = true ↔ CountsBadly t l := by
  simp only [badCount, CountsBadly, Bool.and_eq_true, Bool.or_eq_true, bne_iff_ne, decide_eq_true_eq, and_assoc]

/-- The two low bits of an address, as a number. -/
theorem extract_low_two_ne_zero_iff {a : Word} : a.extractLsb' 0 2 ≠ 0 ↔ a.toNat % 4 ≠ 0 := by
  rw [Ne, ← BitVec.toNat_inj, BitVec.extractLsb'_toNat]
  rfl

theorem badSetup_iff : badSetup i s t = true ↔
    (∃ l, (SetsBounds i l ∨ SetsCount i l) ∧ s.pc.toNat % 4 ≠ 0) ∨ (∃ l, SetsBounds i l ∧ (s.loop l).count ≠ 0) ∨
      (∃ l, SetsCount i l ∧ CountsBadly t l) := by
  unfold badSetup
  split
  next hn => simp [not_sets_of_loopWrite hn]
  next w hw =>
    simp only [sets_or_of_loopWrite hw]
    simp only [sets_of_loopWrite hw, Bool.or_eq_true, Bool.and_eq_true, bne_iff_ne, extract_low_two_ne_zero_iff,
      badCount_iff, and_assoc, exists_eq_left, or_assoc]

end

/-! ### Arriving in a body (R412 item 8) -/

/-- Loop `h` counts and `p` is in its body (R411). -/
def HwLoop.InBody (h : HwLoop) (p : Word) : Prop := h.count ≠ 0 ∧ h.start.toNat ≤ p.toNat ∧ p.toNat + 4 ≤ h.stop.toNat

/-- Control has come from `s` into a body of `t` elsewhere than at its start and not from the instruction before; the inner loop
of two that goes back comes into no body (R426). -/
def Arrives (s t : State) : Prop :=
  t.elwWaiting = none ∧ ∃ l : BitVec 1,
    (t.loop l).InBody t.pc ∧ t.pc ≠ (t.loop l).start ∧ t.pc ≠ s.pc + 4 ∧
      ¬ (l = 1 ∧ s.loop1.InBody s.pc ∧ s.endsLoop0 ∧ t.loop0.count ≠ s.loop0.count)

section
variable {s t : State} {i : Instr}

theorem HwLoop.covers_iff {h : HwLoop} {p : Word} : h.covers p = true ↔ h.InBody p := by
  simp only [HwLoop.covers, HwLoop.InBody, Bool.and_eq_true, bne_iff_ne, decide_eq_true_eq, and_assoc]

theorem entersBody_iff {h : HwLoop} {p q : Word} : entersBody h p q = true ↔ h.InBody q ∧ q ≠ h.start ∧ q ≠ p + 4 := by
  simp only [entersBody, Bool.and_eq_true, bne_iff_ne, HwLoop.covers_iff, and_assoc, ne_comm (a := q) (b := p + 4)]

theorem innerLoopBack_iff : innerLoopBack s t = true ↔
    s.loop1.InBody s.pc ∧ s.endsLoop0 ∧ t.loop0.count ≠ s.loop0.count := by
  simp only [innerLoopBack, Bool.and_eq_true, bne_iff_ne, beq_iff_eq, HwLoop.covers_iff, loopBack_zero, and_assoc]

/-- A statement about one of the two loops. -/
theorem exists_bit {P : BitVec 1 → Prop} : (∃ l, P l) ↔ P 0 ∨ P 1 :=
  ⟨fun ⟨l, hl⟩ => (bit_cases l).imp (fun h0 => by rwa [h0] at hl) fun h1 => by rwa [h1] at hl, fun h => h.elim (⟨0, ·⟩) (⟨1, ·⟩)⟩

theorem arrivesInBody_iff : arrivesInBody s t = true ↔ Arrives s t := by
  have hin : (!innerLoopBack s t) = true ↔ ¬ (s.loop1.InBody s.pc ∧ s.endsLoop0 ∧ t.loop0.count ≠ s.loop0.count) := by
    rw [Bool.not_eq_true', ← Bool.not_eq_true, innerLoopBack_iff]
  have h01 : (0 : BitVec 1) ≠ 1 := by decide
  unfold arrivesInBody Arrives
  rw [exists_bit, Bool.and_eq_true, Bool.or_eq_true, Bool.and_eq_true, Option.isNone_iff_eq_none, entersBody_iff,
    entersBody_iff, hin]
  simp only [h01, false_and, not_false_eq_true, and_true, true_and, and_assoc]
  rfl

theorem returnsFromTrap_iff : returnsFromTrap i s = true ↔
    (i = .mret ∧ s.debugMode = false) ∨ (i = .dret ∧ s.debugMode = true) := by
  unfold returnsFromTrap
  split
  next => simp
  next => simp
  next hm hd => exact iff_of_false Bool.false_ne_true (by rintro (⟨h, -⟩ | ⟨h, -⟩); exacts [hm h, hd h])

/-! ### Violations -/

theorem covers_and_or_iff {a b : Bool} {P : BitVec 1 → Prop} (ha : a = true ↔ P 0) (hb : b = true ↔ P 1) :
    (s.loop0.covers s.pc && a || s.loop1.covers s.pc && b) = true ↔ ∃ l, (s.loop l).InBody s.pc ∧ P l := by
  rw [exists_bit, Bool.or_eq_true, Bool.and_eq_true, Bool.and_eq_true, HwLoop.covers_iff, HwLoop.covers_iff, ha, hb]
  rfl

theorem loopViolation_of_absent (h : s.cfg.corevPulp = false) : loopViolation i s t = false := by
  rw [loopViolation, h, Bool.false_and]

theorem undecodableViolation_of_absent {x : Word} (h : s.cfg.corevPulp = false) : undecodableViolation x s t = false := by
  rw [undecodableViolation, h, Bool.false_and]

theorem loopViolation_iff (h : s.cfg.corevPulp = true) : loopViolation i s t = true ↔
    (∃ l, (s.loop l).InBody s.pc ∧ ForbiddenInBody i l) ∨
      (∃ l, (SetsBounds i l ∨ SetsCount i l) ∧ s.pc.toNat % 4 ≠ 0) ∨ (∃ l, SetsBounds i l ∧ (s.loop l).count ≠ 0) ∨
      (∃ l, SetsCount i l ∧ CountsBadly t l) ∨
      (¬ (i = .mret ∧ s.debugMode = false) ∧ ¬ (i = .dret ∧ s.debugMode = true) ∧ Arrives s t) := by
  have hreturn : (!returnsFromTrap i s) = true ↔
      ¬ (i = .mret ∧ s.debugMode = false) ∧ ¬ (i = .dret ∧ s.debugMode = true) := by
    rw [Bool.not_eq_true', ← Bool.not_eq_true, returnsFromTrap_iff, not_or]
  rw [loopViolation, h, Bool.true_and, Bool.or_eq_true, Bool.or_eq_true, Bool.and_eq_true,
    covers_and_or_iff forbiddenInBody_iff forbiddenInBody_iff, badSetup_iff, hreturn, arrivesInBody_iff]
  simp only [or_assoc, and_assoc]

theorem undecodableViolation_iff {x : Word} (h : s.cfg.corevPulp = true) : undecodableViolation x s t = true ↔
    (∃ l, (s.loop l).InBody s.pc ∧ x.extractLsb' 0 2 ≠ 3) ∨ Arrives s t := by
  rw [undecodableViolation, h, Bool.true_and, Bool.or_eq_true, arrivesInBody_iff, Bool.and_or_distrib_right,
    covers_and_or_iff (P := fun _ => x.extractLsb' 0 2 ≠ 3) bne_iff_ne bne_iff_ne]

end

/-! ### The statement -/

/-- Settles O53: each instruction replaces one register set, and each test for a violation says what the claim lists. -/
theorem hardwareLoopSetup : Obligations.HardwareLoopSetup := by
  intro s l rs1 u v
  refine ⟨fun hp t i x => ⟨loopViolation_of_absent hp, undecodableViolation_of_absent hp⟩, fun hp => ?_⟩
  intro sets al
  rw [← uimmWords_eq_ofNat u, ← uimmWords_eq_ofNat v, BitVec.ofNat_toNat 32 u]
  exact
    ⟨completesWith_setLoopTo (fun h => { h with start := al (s.pc + uimmWords u) }) hp rfl rfl,
      completesWith_setLoopTo (fun h => { h with start := al (s.reg rs1) }) hp rfl rfl,
      completesWith_setLoopTo (fun h => { h with stop := al (s.pc + uimmWords u) }) hp rfl rfl,
      completesWith_setLoopTo (fun h => { h with stop := al (s.reg rs1) }) hp rfl rfl,
      completesWith_setLoopTo (fun h => { h with count := u.setWidth 32 }) hp rfl rfl,
      completesWith_setLoopTo (fun h => { h with count := s.reg rs1 }) hp rfl rfl,
      completesWith_setLoopTo (fun _ => ⟨al (s.pc + 4), al (s.pc + uimmWords v), u.setWidth 32⟩) hp rfl rfl,
      completesWith_setLoopTo (fun _ => ⟨al (s.pc + 4), al (s.pc + uimmWords u), s.reg rs1⟩) hp rfl rfl,
      fun _ _ => ⟨loopViolation_iff hp, fun _ => undecodableViolation_iff hp⟩⟩

end Sys2Proof.Machine
end

section
/-! SUPPORT. The Xcv arithmetic that normalises (spec/46_xcv_alu.md R475 to R490, 47_xcv_mac.md R511 to R528). The word that an
instruction shifts is an exact integer modulo 2^32, and adding the rounding constant keeps it one; the shifts and their rounded forms
are four shared forms of completion over such a word. -/

namespace Sys2Proof.Machine

/-! ### Words as integers modulo 2^32 -/

/-- The rounding constant before it is reduced modulo 2^32 (47_xcv_mac R510). -/
def roundConstInt (k : Nat) : Int := if k = 0 then 0 else 2 ^ (k - 1)

theorem roundConst_eq_ofInt (k : Nat) : roundConst k = BitVec.ofInt 32 (roundConstInt k) := by
  unfold roundConst roundConstInt
  split
  · rfl
  · rw [Nat.one_shiftLeft, BitVec.natCast_eq_ofNat, ← BitVec.ofInt_natCast, Nat.cast_pow, Nat.cast_ofNat]

theorem add_toInt_of_eq_ofInt {x : Word} {z : Int} (y : Word) (h : x = BitVec.ofInt 32 z) :
    x + y = BitVec.ofInt 32 (z + y.toInt) := by
  rw [h, BitVec.ofInt_add, BitVec.ofInt_toInt]

theorem mac_eq_ofInt (d x y : Word) : d + x * y = BitVec.ofInt 32 (d.toInt + x.toInt * y.toInt) := by
  simp only [BitVec.ofInt_add, BitVec.ofInt_mul, BitVec.ofInt_toInt]

theorem msu_eq_ofInt (d x y : Word) : d - x * y = BitVec.ofInt 32 (d.toInt - x.toInt * y.toInt) := by
  simp only [Int.sub_eq_add_neg, BitVec.sub_eq_add_neg, BitVec.ofInt_add, BitVec.ofInt_neg, BitVec.ofInt_mul, BitVec.ofInt_toInt]

/-! ### Products of halfwords (47_xcv_mac R510) -/

section
variable (v w : Word)

theorem toNat_loHalf : ((loHalf v).toNat : Int) = v.toNat % 2 ^ 16 := by
  rw [loHalf, BitVec.extractLsb'_toNat, Nat.shiftRight_zero]
  rfl

theorem toNat_hiHalf : ((hiHalf v).toNat : Int) = v.toNat / 2 ^ 16 := by
  rw [hiHalf, BitVec.extractLsb'_toNat, Nat.shiftRight_eq_div_pow]
  omega

theorem loHalf_eq_setWidth : loHalf v = v.setWidth 16 := (BitVec.setWidth_eq_extractLsb' (by decide)).symm

/-- The high half keeps the sign of the word. -/
theorem toInt_hiHalf : (hiHalf v).toInt = v.toInt / 2 ^ 16 := by
  rw [hiHalf, BitVec.toInt_extractLsb', Nat.shiftRight_eq_div_pow, BitVec.toInt_eq_toNat_bmod]
  have hv := v.isLt
  simp only [Int.bmod]
  omega

theorem mulHalfU_eq_ofInt (x y : BitVec 16) : mulHalfU x y = BitVec.ofInt 32 (x.toNat * y.toNat) := by
  rw [mulHalfU, ← BitVec.ofNat_toNat, ← BitVec.ofNat_toNat, BitVec.ofInt_mul, BitVec.ofInt_natCast, BitVec.ofInt_natCast]

theorem mulHalfS_eq_ofInt (x y : BitVec 16) : mulHalfS x y = BitVec.ofInt 32 (x.toInt * y.toInt) := by
  rw [mulHalfS, mul_eq_ofInt, BitVec.toInt_signExtend_of_le (by decide), BitVec.toInt_signExtend_of_le (by decide)]

theorem mulHalfU_loHalf : mulHalfU (loHalf v) (loHalf w) = BitVec.ofInt 32 ((v.toNat % 2 ^ 16) * (w.toNat % 2 ^ 16)) := by
  rw [mulHalfU_eq_ofInt, toNat_loHalf, toNat_loHalf]

theorem mulHalfU_hiHalf : mulHalfU (hiHalf v) (hiHalf w) = BitVec.ofInt 32 ((v.toNat / 2 ^ 16) * (w.toNat / 2 ^ 16)) := by
  rw [mulHalfU_eq_ofInt, toNat_hiHalf, toNat_hiHalf]

theorem mulHalfS_loHalf :
    mulHalfS (loHalf v) (loHalf w) = BitVec.ofInt 32 ((v.setWidth 16).toInt * (w.setWidth 16).toInt) := by
  rw [mulHalfS_eq_ofInt, loHalf_eq_setWidth, loHalf_eq_setWidth]

theorem mulHalfS_hiHalf : mulHalfS (hiHalf v) (hiHalf w) = BitVec.ofInt 32 ((v.toInt / 2 ^ 16) * (w.toInt / 2 ^ 16)) := by
  rw [mulHalfS_eq_ofInt, toInt_hiHalf, toInt_hiHalf]

end

/-! ### The shared forms of completion -/

section
variable {s : State} {i : Instr} {rd : Reg} {x : Word} {z : Int} {k : Nat}

theorem gives_sshiftRight (hp : s.cfg.corevPulp = true) (h : exec i s = xcv rd (x.sshiftRight k) s)
    (hx : x = BitVec.ofInt 32 z) : Gives s i 4 rd (BitVec.ofInt 32 ((BitVec.ofInt 32 z).toInt / 2 ^ k)) :=
  gives_of_xcv hp h (hx ▸ sshiftRight_eq_ofInt x k)

theorem gives_ushiftRight (hp : s.cfg.corevPulp = true) (h : exec i s = xcv rd (x >>> k) s)
    (hx : x = BitVec.ofInt 32 z) : Gives s i 4 rd (BitVec.ofNat 32 ((BitVec.ofInt 32 z).toNat / 2 ^ k)) :=
  gives_of_xcv hp h (hx ▸ ushiftRight_eq_ofNat x k)

theorem add_roundConst_eq_ofInt (hx : x = BitVec.ofInt 32 z) (k : Nat) :
    x + roundConst k = BitVec.ofInt 32 (z + roundConstInt k) := by
  rw [hx, roundConst_eq_ofInt, BitVec.ofInt_add]

theorem gives_sshiftRight_rounded (hp : s.cfg.corevPulp = true) (h : exec i s = xcv rd ((x + roundConst k).sshiftRight k) s)
    (hx : x = BitVec.ofInt 32 z) : Gives s i 4 rd (BitVec.ofInt 32 ((BitVec.ofInt 32 (z + roundConstInt k)).toInt / 2 ^ k)) :=
  gives_sshiftRight hp h (add_roundConst_eq_ofInt hx k)

theorem gives_ushiftRight_rounded (hp : s.cfg.corevPulp = true) (h : exec i s = xcv rd ((x + roundConst k) >>> k) s)
    (hx : x = BitVec.ofInt 32 z) : Gives s i 4 rd (BitVec.ofNat 32 ((BitVec.ofInt 32 (z + roundConstInt k)).toNat / 2 ^ k)) :=
  gives_ushiftRight hp h (add_roundConst_eq_ofInt hx k)

end

/-! ### The statement -/

/-- Settles O57: each instruction is one of the four shifts of a sum, a difference, a product or an accumulated product; `cv.mac` and
`cv.msu` shift by nothing. -/
theorem normalisingArithmetic : Obligations.NormalisingArithmetic := by
  intro s rd rs1 rs2 n hp a b d m half asr lsr lu hu ls hs k is
  have hm : m = shiftAmount (s.reg rs2) := (shiftAmount_eq_mod _).symm
  clear_value m
  subst hm
  have hadd := add_eq_ofInt (s.reg rs1) (s.reg rs2)
  have hsub := sub_eq_ofInt (s.reg rs1) (s.reg rs2)
  have haddr := add_eq_ofInt (s.reg rd) (s.reg rs1)
  have hsubr := sub_eq_ofInt (s.reg rd) (s.reg rs1)
  have hlu := mulHalfU_loHalf (s.reg rs1) (s.reg rs2)
  have hhu := mulHalfU_hiHalf (s.reg rs1) (s.reg rs2)
  have hls := mulHalfS_loHalf (s.reg rs1) (s.reg rs2)
  have hhs := mulHalfS_hiHalf (s.reg rs1) (s.reg rs2)
  exact
    ⟨⟨gives_sshiftRight hp rfl hadd,
        gives_ushiftRight hp rfl hadd,
        gives_sshiftRight_rounded hp rfl hadd,
        gives_ushiftRight_rounded hp rfl hadd,
        gives_sshiftRight hp rfl hsub,
        gives_ushiftRight hp rfl hsub,
        gives_sshiftRight_rounded hp rfl hsub,
        gives_ushiftRight_rounded hp rfl hsub⟩,
      ⟨gives_sshiftRight hp rfl haddr,
        gives_ushiftRight hp rfl haddr,
        gives_sshiftRight_rounded hp rfl haddr,
        gives_ushiftRight_rounded hp rfl haddr,
        gives_sshiftRight hp rfl hsubr,
        gives_ushiftRight hp rfl hsubr,
        gives_sshiftRight_rounded hp rfl hsubr,
        gives_ushiftRight_rounded hp rfl hsubr⟩,
      ⟨gives_ushiftRight hp rfl hlu,
        gives_ushiftRight hp rfl hhu,
        gives_sshiftRight hp rfl hls,
        gives_sshiftRight hp rfl hhs,
        gives_ushiftRight_rounded hp rfl hlu,
        gives_ushiftRight_rounded hp rfl hhu,
        gives_sshiftRight_rounded hp rfl hls,
        gives_sshiftRight_rounded hp rfl hhs⟩,
      ⟨gives_ushiftRight hp rfl (add_toInt_of_eq_ofInt _ hlu),
        gives_ushiftRight hp rfl (add_toInt_of_eq_ofInt _ hhu),
        gives_sshiftRight hp rfl (add_toInt_of_eq_ofInt _ hls),
        gives_sshiftRight hp rfl (add_toInt_of_eq_ofInt _ hhs),
        gives_ushiftRight_rounded hp rfl (add_toInt_of_eq_ofInt _ hlu),
        gives_ushiftRight_rounded hp rfl (add_toInt_of_eq_ofInt _ hhu),
        gives_sshiftRight_rounded hp rfl (add_toInt_of_eq_ofInt _ hls),
        gives_sshiftRight_rounded hp rfl (add_toInt_of_eq_ofInt _ hhs)⟩,
      gives_of_xcv hp rfl (mac_eq_ofInt _ _ _),
      gives_of_xcv hp rfl (msu_eq_ofInt _ _ _)⟩

end Sys2Proof.Machine
end

section
/-! SUPPORT. The general Xcv ALU (spec/46_xcv_alu.md R460 to R474, R495, R496): comparisons of words as comparisons of integers, and
clipping between two bounds that are read as signed. -/

namespace Sys2Proof.Machine

/-! ### Comparisons -/

section
variable (x y : Word)

theorem boolWord_sle : boolWord (x.sle y) = if x.toInt ≤ y.toInt then 1 else 0 := by
  simp only [boolWord, BitVec.sle_iff_toInt_le]

theorem boolWord_ule : boolWord (x.ule y) = if x.toNat ≤ y.toNat then 1 else 0 := by
  simp only [boolWord, BitVec.ule_iff_toNat_le]

/-- The negation of the most negative number wraps to itself, on both sides. -/
theorem absVal_eq_ofInt : absVal x = BitVec.ofInt 32 |x.toInt| := by
  unfold absVal
  split
  next h => rw [abs_of_neg (BitVec.slt_iff_toInt_lt.1 h), BitVec.ofInt_neg, BitVec.ofInt_toInt]
  next h => rw [abs_of_nonneg (not_lt.1 (mt BitVec.slt_iff_toInt_lt.2 h)), BitVec.ofInt_toInt]

theorem minSigned_eq_ofInt : minSigned x y = BitVec.ofInt 32 (min x.toInt y.toInt) := by
  simp only [minSigned, BitVec.slt_iff_toInt_lt]
  split
  next h => rw [min_eq_left h.le, BitVec.ofInt_toInt]
  next h => rw [min_eq_right (not_lt.1 h), BitVec.ofInt_toInt]

theorem maxSigned_eq_ofInt : maxSigned x y = BitVec.ofInt 32 (max x.toInt y.toInt) := by
  simp only [maxSigned, BitVec.slt_iff_toInt_lt]
  split
  next h => rw [max_eq_right h.le, BitVec.ofInt_toInt]
  next h => rw [max_eq_left (not_lt.1 h), BitVec.ofInt_toInt]

theorem minUnsigned_eq_ofNat : minUnsigned x y = BitVec.ofNat 32 (min x.toNat y.toNat) := by
  simp only [minUnsigned, BitVec.ult_iff_toNat_lt]
  split
  next h => exact eq_ofNat (min_eq_left h.le).symm
  next h => exact eq_ofNat (min_eq_right (not_lt.1 h)).symm

theorem maxUnsigned_eq_ofNat : maxUnsigned x y = BitVec.ofNat 32 (max x.toNat y.toNat) := by
  simp only [maxUnsigned, BitVec.ult_iff_toNat_lt]
  split
  next h => exact eq_ofNat (max_eq_right h.le).symm
  next h => exact eq_ofNat (max_eq_left (not_lt.1 h)).symm

/-! ### Extensions -/

theorem loHalf_zeroExtended : (loHalf x).setWidth 32 = BitVec.ofNat 32 (x.toNat % 2 ^ 16) := by
  rw [← BitVec.ofNat_toNat, loHalf_eq_setWidth, BitVec.toNat_setWidth]

theorem byteOf_zero_eq_setWidth : byteOf x 0 = x.setWidth 8 := (BitVec.setWidth_eq_extractLsb' (by decide)).symm

theorem byteOf_zero_zeroExtended : (byteOf x 0).setWidth 32 = BitVec.ofNat 32 (x.toNat % 2 ^ 8) := by
  rw [← BitVec.ofNat_toNat, byteOf_zero_eq_setWidth, BitVec.toNat_setWidth]

end

/-! ### Clipping -/

/-- `z` clipped to `lo`..`hi`. -/
def clipInt (lo hi z : Int) : Int := if z ≤ lo then lo else if hi ≤ z then hi else z

theorem clipTo_eq_ofInt (lo hi v : Word) : clipTo lo hi v = BitVec.ofInt 32 (clipInt lo.toInt hi.toInt v.toInt) := by
  unfold clipTo clipInt
  simp only [BitVec.sle_iff_toInt_le, apply_ite (BitVec.ofInt 32), BitVec.ofInt_toInt]

/-- The upper bound of `cv.clip` and `cv.clipu` (R471). -/
theorem toInt_clipBound (n : BitVec 5) : (clipBound n).toInt = if n = 0 then 0 else 2 ^ (n.toNat - 1) - 1 := by
  revert n; decide

/-- The upper bound of `cv.clipr` and `cv.clipur` is not negative (R473). -/
theorem toInt_clipBoundReg (v : Word) : (clipBoundReg v).toInt = (v &&& 0x7FFFFFFF).toNat := by
  have h : (v &&& 0x7FFFFFFF).toNat ≤ 0x7FFFFFFF := Nat.and_le_right
  rw [clipBoundReg, BitVec.toInt_eq_toNat_of_lt (by omega)]

/-- The lower bound of `cv.clip` and `cv.clipr` is the complement of the upper one, so it never wraps. -/
theorem toInt_neg_sub_one (v : Word) : (-v - 1).toInt = -v.toInt - 1 := by
  have h : -v - 1 = ~~~v := (BitVec.not_eq_neg_add v).symm
  rw [h, BitVec.toInt_not, BitVec.toInt_eq_toNat_bmod]
  have hv := v.isLt
  simp only [Int.bmod]
  omega

/-! ### The statement -/

/-- Settles O56: each instruction's value is that of the claim on the integers, and each branch tests its comparison. -/
theorem xcvGeneralAlu : Obligations.XcvGeneralAlu := by
  intro s rd rs1 rs2 n imm5 imm hp a b clip hi hr
  have himm : (imm5.signExtend 32 : Word).toInt = imm5.toInt := BitVec.toInt_signExtend_of_le (by decide)
  have heq : a = imm5.signExtend 32 ↔ a.toInt = imm5.toInt := by rw [← himm, BitVec.toInt_inj]
  have hclip : ∀ {v : Word} {h : Int}, v.toInt = h → clipTo (-v - 1) v a = clip (-h - 1) h := by
    rintro v _ rfl
    rw [clipTo_eq_ofInt, toInt_neg_sub_one]
    rfl
  have hclipu : ∀ {v : Word} {h : Int}, v.toInt = h → clipTo 0 v a = clip 0 h := by
    rintro v _ rfl
    rw [clipTo_eq_ofInt]
    rfl
  exact
    ⟨gives_of_xcv hp rfl (absVal_eq_ofInt a),
      gives_of_xcv hp rfl (boolWord_sle a b),
      gives_of_xcv hp rfl (boolWord_ule a b),
      gives_of_xcv hp rfl (minSigned_eq_ofInt a b),
      gives_of_xcv hp rfl (minUnsigned_eq_ofNat a b),
      gives_of_xcv hp rfl (maxSigned_eq_ofInt a b),
      gives_of_xcv hp rfl (maxUnsigned_eq_ofNat a b),
      gives_of_xcv hp rfl (congrArg (BitVec.signExtend 32) (loHalf_eq_setWidth a)),
      gives_of_xcv hp rfl (loHalf_zeroExtended a),
      gives_of_xcv hp rfl (congrArg (BitVec.signExtend 32) (byteOf_zero_eq_setWidth a)),
      gives_of_xcv hp rfl (byteOf_zero_zeroExtended a),
      gives_of_xcv hp rfl (hclip (toInt_clipBound n)),
      gives_of_xcv hp rfl (hclipu (toInt_clipBound n)),
      gives_of_xcv hp rfl (hclip (toInt_clipBoundReg b)),
      gives_of_xcv hp rfl (hclipu (toInt_clipBoundReg b)),
      branches_of_offset (ifPulp_of_present hp _) (beq_iff_eq.trans heq),
      branches_of_offset (ifPulp_of_present hp _) (bne_iff_ne.trans (not_congr heq))⟩

end Sys2Proof.Machine
end

section
/-! SUPPORT. Finding, counting and rotating bits (spec/46_xcv_alu.md R452 to R456): what each search of the model answers, by induction on
the bits that it looks at. -/

namespace Sys2Proof.Machine

section
variable (v : Word)

/-! ### The first and the last set bit (R453, R454) -/

/-- The search upward from bit `n` over `k` bits. -/
theorem firstSet_cases (k n : Nat) :
    (firstSet v k n = 32 ∧ ∀ j, n ≤ j → j < n + k → v.getLsbD j = false) ∨
      ∃ m, firstSet v k n = BitVec.ofNat 32 m ∧ m < n + k ∧ v.getLsbD m = true ∧ ∀ j, n ≤ j → j < m → v.getLsbD j = false := by
  induction k generalizing n with
  | zero => exact .inl ⟨rfl, fun j hn hk => absurd hk (by omega)⟩
  | succ k ih =>
    unfold firstSet
    cases hv : v.getLsbD n with
    | true => exact .inr ⟨n, rfl, by omega, hv, fun j hn hm => absurd hm (by omega)⟩
    | false =>
      have hfrom : ∀ {j}, n ≤ j → (n + 1 ≤ j → v.getLsbD j = false) → v.getLsbD j = false := fun hn h =>
        hn.eq_or_lt.elim (· ▸ hv) h
      rcases ih (n + 1) with ⟨he, hz⟩ | ⟨m, he, hm, hset, hz⟩
      · exact .inl ⟨he, fun j hn hk => hfrom hn fun h => hz j h (by omega)⟩
      · exact .inr ⟨m, he, by omega, hset, fun j hn hk => hfrom hn fun h => hz j h hk⟩

/-- The search downward from below bit `n`. -/
theorem lastSet_cases (n : Nat) :
    (lastSet v n = 32 ∧ ∀ j, j < n → v.getLsbD j = false) ∨
      ∃ m, lastSet v n = BitVec.ofNat 32 m ∧ m < n ∧ v.getLsbD m = true ∧ ∀ j, m < j → j < n → v.getLsbD j = false := by
  induction n with
  | zero => exact .inl ⟨rfl, fun j hn => absurd hn (by omega)⟩
  | succ n ih =>
    unfold lastSet
    cases hv : v.getLsbD n with
    | true => exact .inr ⟨n, rfl, by omega, hv, fun j hm hn => absurd hm (by omega)⟩
    | false =>
      have hbelow : ∀ {j}, j < n + 1 → (j < n → v.getLsbD j = false) → v.getLsbD j = false := fun hn h =>
        (Nat.lt_succ_iff.1 hn).eq_or_lt.elim (· ▸ hv) h
      rcases ih with ⟨he, hz⟩ | ⟨m, he, hm, hset, hz⟩
      · exact .inl ⟨he, fun j hn => hbelow hn (hz j)⟩
      · exact .inr ⟨m, he, by omega, hset, fun j hm hn => hbelow hn (hz j hm)⟩

variable {v}

theorem eq_zero_of_no_bit (h : ∀ j, j < 32 → v.getLsbD j = false) : v = 0 :=
  BitVec.eq_of_getLsbD_eq fun j hj => (h j hj).trans (BitVec.getLsbD_zero).symm

theorem ne_zero_of_bit {j : Nat} (h : v.getLsbD j = true) : v ≠ 0 := by
  rintro rfl
  simp at h

variable (v)

theorem findFirst_spec : ∃ k, ((v = 0 → k = 32) ∧ (v ≠ 0 → k < 32 ∧ v.getLsbD k = true ∧ ∀ j, j < k → v.getLsbD j = false)) ∧
    findFirst v = BitVec.ofNat 32 k := by
  rcases firstSet_cases v 32 0 with ⟨he, hz⟩ | ⟨m, he, hm, hset, hz⟩
  · exact ⟨32, ⟨fun _ => rfl, fun h => absurd (eq_zero_of_no_bit fun j hj => hz j j.zero_le (by omega)) h⟩, he⟩
  · exact ⟨m, ⟨fun h => absurd h (ne_zero_of_bit hset), fun _ => ⟨by omega, hset, fun j => hz j j.zero_le⟩⟩, he⟩

theorem findLast_spec : ∃ k, ((v = 0 → k = 32) ∧ (v ≠ 0 → k < 32 ∧ v.getLsbD k = true ∧ ∀ j, k < j → v.getLsbD j = false)) ∧
    findLast v = BitVec.ofNat 32 k := by
  rcases lastSet_cases v 32 with ⟨he, hz⟩ | ⟨m, he, hm, hset, hz⟩
  · exact ⟨32, ⟨fun _ => rfl, fun h => absurd (eq_zero_of_no_bit hz) h⟩, he⟩
  · have habove : ∀ j, m < j → v.getLsbD j = false := fun j hj =>
      (lt_or_ge j 32).elim (hz j hj) (BitVec.getLsbD_of_ge v j)
    exact ⟨m, ⟨fun h => absurd h (ne_zero_of_bit hset), fun _ => ⟨hm, hset, habove⟩⟩, he⟩

/-! ### Leading bits (R455) -/

/-- A run from the top of the bits below `n` ends at the first bit that differs from `p`. -/
theorem runLength_spec (p : Bool) (n : Nat) : runLength v p n ≤ n ∧
    (∀ j, n - runLength v p n ≤ j → j < n → v.getLsbD j = p) ∧
    (runLength v p n < n → v.getLsbD (n - 1 - runLength v p n) ≠ p) := by
  induction n with
  | zero => exact ⟨le_rfl, fun j _ hj => absurd hj (by omega), fun h => absurd h (by omega)⟩
  | succ n ih =>
    obtain ⟨hle, hrun, hend⟩ := ih
    unfold runLength
    split
    next hv =>
      refine ⟨by omega, fun j hj hn => ?_, fun h => ?_⟩
      · exact (Nat.lt_succ_iff.1 hn).eq_or_lt.elim (· ▸ hv) (hrun j (by omega))
      · have he : n + 1 - 1 - (runLength v p n + 1) = n - 1 - runLength v p n := by omega
        rw [he]
        exact hend (by omega)
    next hv => exact ⟨by omega, fun j hj hn => absurd hj (by omega), fun _ => hv⟩

theorem leadingBits_spec : ∃ k, ((v = 0 → k = 0) ∧
      (v ≠ 0 → k < 32 ∧ (∀ n, 31 - k ≤ n → n < 32 → v.getLsbD n = v.getLsbD 31) ∧
        (k < 31 → v.getLsbD (30 - k) ≠ v.getLsbD 31))) ∧ leadingBits v = BitVec.ofNat 32 k := by
  unfold leadingBits
  split
  next h => exact ⟨0, ⟨fun _ => rfl, fun h' => absurd h h'⟩, rfl⟩
  next h =>
    obtain ⟨hle, hrun, hend⟩ := runLength_spec v (v.getLsbD 31) 32
    have hpos : 1 ≤ runLength v (v.getLsbD 31) 32 := Nat.pos_of_ne_zero fun h0 => by
      rw [h0] at hend
      exact hend (by decide) rfl
    generalize runLength v (v.getLsbD 31) 32 = r at *
    refine ⟨r - 1, ⟨fun h' => absurd h' h, fun _ => ⟨by omega, fun n hn => hrun n (by omega), fun hr => ?_⟩⟩, rfl⟩
    have he : 30 - (r - 1) = 32 - 1 - r := by omega
    rw [he]
    exact hend (by omega)

/-! ### Counting and rotating (R456, R452) -/

theorem countSet_eq_card (n : Nat) :
    countSet v n = (Finset.filter (fun j => v.getLsbD j = true) (Finset.range n)).card := by
  induction n with
  | zero => rfl
  | succ n ih => rw [countSet, ih, Finset.card_filter, Finset.card_filter, Finset.sum_range_succ, Nat.add_comm]

/-- A word rotated right by the low five bits of `b`. -/
theorem getLsbD_rotateRight_shiftAmount (b : Word) {n : Nat} (hn : n < 32) :
    (v.rotateRight (shiftAmount b)).getLsbD n = v.getLsbD ((n + b.toNat) % 32) := by
  rw [shiftAmount_eq_mod, BitVec.getLsbD_rotateRight, Nat.mod_mod]
  by_cases h : n < 32 - b.toNat % 32
  · have he : (n + b.toNat) % 32 = b.toNat % 32 + n := by omega
    rw [decide_eq_true h, he]
    rfl
  · have he : (n + b.toNat) % 32 = n - (32 - b.toNat % 32) := by omega
    rw [decide_eq_false h, decide_eq_true hn, he]
    rfl

end

/-! ### The statement -/

/-- Settles O55: each value is what the search, the count or the rotation of the model answers. -/
theorem bitCounts : Obligations.BitCounts := by
  intro s rd rs1 rs2 hp a is
  have hgives : ∀ {i : Instr} {v : Word} {P : Nat → Prop}, exec i s = xcv rd v s →
      (∃ k, P k ∧ v = BitVec.ofNat 32 k) → is i P := fun h ⟨k, hk, hv⟩ => ⟨k, hk, gives_of_xcv hp h hv⟩
  exact
    ⟨hgives rfl (findFirst_spec a),
      hgives rfl (findLast_spec a),
      hgives rfl (leadingBits_spec a),
      hgives rfl ⟨_, countSet_eq_card a 32, rfl⟩,
      _, fun _ => getLsbD_rotateRight_shiftAmount a (s.reg rs2), gives_of_xcv hp rfl rfl⟩

end Sys2Proof.Machine
end

section
/-! SUPPORT. The bit-field instructions and `cv.bitrev` (spec/46_xcv_alu.md R441 to R451), bit by bit: the masks and the fields of R440, and
the word that a permutation of bits makes. -/

namespace Sys2Proof.Machine

/-! ### Fields (R440) -/

/-- The last bit of the field of width `w` + 1 at position `p`, cut off at bit 31. -/
def fieldLast (p w : Nat) : Nat := min (p + w) 31

/-- The mask of the `k` low bits. -/
theorem getLsbD_lowMask (k : Nat) {n : Nat} (hn : n < 32) :
    (((1 <<< k : Nat) : Word) - 1).getLsbD n = decide (n < k) := by
  have hk : 1 <<< k = 2 ^ k - 1 + 1 := by
    rw [Nat.one_shiftLeft]
    exact (Nat.sub_add_cancel (Nat.one_le_two_pow)).symm
  have he : ((1 <<< k : Nat) : Word) - 1 = BitVec.ofNat 32 (2 ^ k - 1) := by
    rw [hk, BitVec.natCast_eq_ofNat, BitVec.ofNat_add]
    exact BitVec.add_sub_cancel _ _
  rw [he, BitVec.getLsbD_ofNat, decide_eq_true hn, Bool.true_and, Nat.testBit_two_pow_sub_one]

section
variable {p : Nat} (hp : p < 32) (w : Nat)
include hp

/-- The bits of the field, counted from its position. -/
theorem lt_fieldWidth_iff (k : Nat) : k < fieldWidth p w ↔ p + k ≤ fieldLast p w := by
  unfold fieldWidth fieldLast
  omega

theorem fieldWidth_bounds : 0 < fieldWidth p w ∧ p + fieldWidth p w = fieldLast p w + 1 ∧ fieldLast p w < 32 := by
  unfold fieldWidth fieldLast
  omega

theorem getLsbD_fieldMask {n : Nat} (hn : n < 32) : (fieldMask p w).getLsbD n = decide (p ≤ n ∧ n ≤ fieldLast p w) := by
  rw [fieldMask, BitVec.natCast_eq_ofNat, BitVec.getLsbD_ofNat, decide_eq_true hn, Bool.true_and, Nat.testBit_shiftLeft,
    Nat.one_shiftLeft, Nat.testBit_two_pow_sub_one, ← Bool.decide_and, decide_eq_decide, lt_fieldWidth_iff hp]
  omega

theorem getLsbD_fieldZext (a : Word) {n : Nat} (hn : n < 32) :
    (fieldZext a p w).getLsbD n = if p + n ≤ fieldLast p w then a.getLsbD (p + n) else false := by
  rw [fieldZext, BitVec.getLsbD_and, BitVec.getLsbD_ushiftRight, getLsbD_lowMask _ hn]
  simp only [lt_fieldWidth_iff hp]
  split
  next h => rw [decide_eq_true h, Bool.and_true]
  next h => rw [decide_eq_false h, Bool.and_false]

theorem getLsbD_fieldSext (a : Word) {n : Nat} (hn : n < 32) : (fieldSext a p w).getLsbD n =
    if p + n ≤ fieldLast p w then a.getLsbD (p + n) else a.getLsbD (fieldLast p w) := by
  obtain ⟨hpos, hlast, hlt⟩ := fieldWidth_bounds hp w
  rw [fieldSext, BitVec.getLsbD_sshiftRight, decide_eq_false (not_le.2 hn), Bool.not_false, Bool.true_and,
    BitVec.msb_eq_getLsbD_last]
  simp only [BitVec.getLsbD_shiftLeft, BitVec.getLsbD_ushiftRight]
  split
  next h =>
    have hin : p + n ≤ fieldLast p w := by omega
    have he : p + (32 - fieldWidth p w + n - (32 - fieldWidth p w)) = p + n := by omega
    rw [if_pos hin, he]
    simp [h]
  next h =>
    have hout : ¬ p + n ≤ fieldLast p w := by omega
    have he : p + (32 - 1 - (32 - fieldWidth p w)) = fieldLast p w := by omega
    have hkept : ¬ 32 - 1 < 32 - fieldWidth p w := by omega
    rw [if_neg hout, he, decide_eq_false hkept]
    rfl

theorem getLsbD_fieldInsert (d a : Word) {n : Nat} (hn : n < 32) : (fieldInsert d a p w).getLsbD n =
    if p ≤ n ∧ n ≤ fieldLast p w then a.getLsbD (n - p) else d.getLsbD n := by
  simp only [fieldInsert, BitVec.getLsbD_or, BitVec.getLsbD_and, BitVec.getLsbD_not, BitVec.getLsbD_shiftLeft,
    getLsbD_fieldMask hp w hn]
  split
  next h => simp [h, hn]
  next h => simp [h, hn]

theorem getLsbD_and_not_fieldMask (a : Word) {n : Nat} (hn : n < 32) :
    (a &&& ~~~ fieldMask p w).getLsbD n = if p ≤ n ∧ n ≤ fieldLast p w then false else a.getLsbD n := by
  simp only [BitVec.getLsbD_and, BitVec.getLsbD_not, getLsbD_fieldMask hp w hn]
  split
  next h => simp [h]
  next h => simp [h, hn]

theorem getLsbD_or_fieldMask (a : Word) {n : Nat} (hn : n < 32) :
    (a ||| fieldMask p w).getLsbD n = if p ≤ n ∧ n ≤ fieldLast p w then true else a.getLsbD n := by
  simp only [BitVec.getLsbD_or, getLsbD_fieldMask hp w hn]
  split
  next h => simp [h]
  next h => simp [h]

end

/-! ### Bit reversal (R446) -/

theorem getLsbD_permuteBits (v : Word) (f : Nat → Nat) {n : Nat} (hn : n < 32) (k : Nat) :
    (permuteBits v f k).getLsbD n = (decide (n < k) && v.getLsbD (f n)) := by
  induction k with
  | zero => simp [permuteBits]
  | succ k ih =>
    have hbit : (((if v.getLsbD (f k) then 1 <<< k else 0 : Nat)) : Word).getLsbD n = (decide (k = n) && v.getLsbD (f k)) := by
      rw [BitVec.natCast_eq_ofNat, BitVec.getLsbD_ofNat, decide_eq_true hn, Bool.true_and]
      split
      next h => rw [h, Bool.and_true, Nat.one_shiftLeft, Nat.testBit_two_pow]
      next h => rw [Bool.eq_false_iff.2 h, Bool.and_false, Nat.zero_testBit]
    rw [permuteBits, BitVec.getLsbD_or, ih, hbit]
    rcases lt_trichotomy k n with h | rfl | h
    · simp [h.ne, h.not_gt, show ¬ n < k + 1 by omega]
    · simp
    · simp [h.ne', h, show n < k + 1 by omega]

/-- Groups of one, two or three bits in reverse order; a selector of 3 reverses single bits. -/
theorem getLsbD_bitReverse (g : BitVec 2) (t : Word) {n : Nat} (hn : n < 32) : (bitReverse g t).getLsbD n =
    if g = 1 then t.getLsbD (30 - 2 * (n / 2) + n % 2)
    else if g = 2 then decide (n < 30) && t.getLsbD (29 - 3 * (n / 3) + n % 3)
    else t.getLsbD (31 - n) := by
  unfold bitReverse
  split
  all_goals rw [getLsbD_permuteBits _ _ hn]
  · rw [decide_eq_true hn]; rfl
  · rw [decide_eq_true hn]; rfl
  · rfl
  · rw [decide_eq_true hn]; rfl

/-! ### The statement -/

/-- The five instructions on the field of width `w` + 1 at position `p`, with the values that the model gives them. -/
structure WritesField (s : State) (rd rs1 : Reg) (p w : Nat) (ex exu ins clr set : Instr) : Prop where
  extract : exec ex s = xcv rd (fieldSext (s.reg rs1) p w) s
  extractu : exec exu s = xcv rd (fieldZext (s.reg rs1) p w) s
  insert : exec ins s = xcv rd (fieldInsert (s.reg rd) (s.reg rs1) p w) s
  clear : exec clr s = xcv rd (s.reg rs1 &&& ~~~ fieldMask p w) s
  set : exec set s = xcv rd (s.reg rs1 ||| fieldMask p w) s

theorem fieldPos_eq_mod (b : Word) : fieldPos b = b.toNat % 32 := BitVec.extractLsb'_toNat ..

theorem fieldLen_eq_mod (b : Word) : fieldLen b = b.toNat / 32 % 32 :=
  (BitVec.extractLsb'_toNat ..).trans (congrArg (· % 32) (Nat.shiftRight_eq_div_pow ..))

/-- Settles O54: both forms write the same words, with the field named by immediates or by `rs2`. -/
theorem bitFields : Obligations.BitFields := by
  intro s rd rs1 rs2 w p g hp a d b is last inField forms
  have hforms : ∀ p w ex exu ins clr set, p < 32 → WritesField s rd rs1 p w ex exu ins clr set →
      forms p w ex exu ins clr set := by
    intro p w ex exu ins clr set h hfield
    exact
      ⟨⟨_, fun _ => getLsbD_fieldSext h w a, gives_of_xcv hp hfield.extract rfl⟩,
        ⟨_, fun _ => getLsbD_fieldZext h w a, gives_of_xcv hp hfield.extractu rfl⟩,
        ⟨_, fun _ => getLsbD_fieldInsert h w d a, gives_of_xcv hp hfield.insert rfl⟩,
        ⟨_, fun _ => getLsbD_and_not_fieldMask h w a, gives_of_xcv hp hfield.clear rfl⟩,
        ⟨_, fun _ => getLsbD_or_fieldMask h w a, gives_of_xcv hp hfield.set rfl⟩⟩
  refine ⟨hforms _ _ _ _ _ _ _ p.isLt ⟨rfl, rfl, rfl, rfl, rfl⟩, ?_, _, fun _ => getLsbD_bitReverse g _, gives_of_xcv hp rfl rfl⟩
  rw [← fieldPos_eq_mod, ← fieldLen_eq_mod]
  exact hforms _ _ _ _ _ _ _ (b.extractLsb' 0 5).isLt ⟨rfl, rfl, rfl, rfl, rfl⟩

end Sys2Proof.Machine
end

section
/-! SUPPORT. The SIMD vectors (48 R540, R541): the elements of a vector that was put together from elements, and the shared forms of
completion of an instruction that writes one. -/

namespace Sys2Proof.Machine

/-! ### The elements of a vector -/

theorem half_packH (g : Fin 2 → BitVec 16) (k : Fin 2) : half (packH (g 1) (g 0)) k = g k := by
  match k with
  | 0 => exact (extract_low (g 1) (g 0) 0 16 (by decide)).trans BitVec.extractLsb'_eq_self
  | 1 => exact (extract_high (g 1) (g 0) 16 16 (by decide)).trans BitVec.extractLsb'_eq_self

theorem lane_packB (g : Fin 4 → Byte) (k : Fin 4) : lane (packB (g 3) (g 2) (g 1) (g 0)) k = g k := by
  match k with
  | 0 => exact (extract_low _ (g 0) 0 8 (by decide)).trans BitVec.extractLsb'_eq_self
  | 1 =>
    show (g 3 ++ g 2 ++ g 1 ++ g 0).extractLsb' 8 8 = g 1
    simp (disch := decide) only [extract_high, extract_low, Nat.reduceSub, BitVec.extractLsb'_eq_self]
  | 2 =>
    show (g 3 ++ g 2 ++ g 1 ++ g 0).extractLsb' 16 8 = g 2
    simp (disch := decide) only [extract_high, extract_low, Nat.reduceSub, BitVec.extractLsb'_eq_self]
  | 3 =>
    show (g 3 ++ g 2 ++ g 1 ++ g 0).extractLsb' 24 8 = g 3
    simp (disch := decide) only [extract_high, Nat.reduceSub, BitVec.extractLsb'_eq_self]

theorem half_replH (x : BitVec 16) (k : Fin 2) : half (replH x) k = x := half_packH (fun _ => x) k

theorem lane_replB (x : Byte) (k : Fin 4) : lane (replB x) k = x := lane_packB (fun _ => x) k

/-! ### Instructions that write a vector -/

section
variable {s : State} {i : Instr} {rd : Reg}

theorem givesHalves_of_xcv {g : Fin 2 → BitVec 16} {v : Word} (hp : s.cfg.corevPulp = true) (h : exec i s = xcv rd v s)
    (hv : v = packH (g 1) (g 0)) : GivesHalves s i rd g :=
  ⟨_, half_packH g, gives_of_xcv hp h hv⟩

theorem givesHalves_of_packH {g : Fin 2 → BitVec 16} {hi lo : BitVec 16} (hp : s.cfg.corevPulp = true)
    (h : exec i s = xcv rd (packH hi lo) s) (h1 : hi = g 1) (h0 : lo = g 0) : GivesHalves s i rd g :=
  givesHalves_of_xcv hp h (congrArg₂ packH h1 h0)

theorem givesBytes_of_xcv {g : Fin 4 → Byte} {v : Word} (hp : s.cfg.corevPulp = true) (h : exec i s = xcv rd v s)
    (hv : v = packB (g 3) (g 2) (g 1) (g 0)) : GivesBytes s i rd g :=
  ⟨_, lane_packB g, gives_of_xcv hp h hv⟩

theorem givesBytes_of_packB {g : Fin 4 → Byte} {b3 b2 b1 b0 : Byte} (hp : s.cfg.corevPulp = true)
    (h : exec i s = xcv rd (packB b3 b2 b1 b0) s) (h3 : b3 = g 3) (h2 : b2 = g 2) (h1 : b1 = g 1) (h0 : b0 = g 0) :
    GivesBytes s i rd g :=
  givesBytes_of_xcv hp h (by rw [h3, h2, h1, h0])

/-- An operation on the elements of `a` and of a second operand with the elements `y`. -/
theorem givesHalves_of_zipH {f op : BitVec 16 → BitVec 16 → BitVec 16} {a b : Word} {y : Fin 2 → BitVec 16}
    (hp : s.cfg.corevPulp = true) (h : exec i s = xcv rd (zipH f a b) s) (hf : ∀ x y, f x y = op x y)
    (hb : ∀ k, half b k = y k) : GivesHalves s i rd (fun k => op (half a k) (y k)) := by
  obtain rfl : half b = y := funext hb
  exact givesHalves_of_packH hp h (hf _ _) (hf _ _)

/-- The same for bytes. -/
theorem givesBytes_of_zipB {f op : Byte → Byte → Byte} {a b : Word} {y : Fin 4 → Byte} (hp : s.cfg.corevPulp = true)
    (h : exec i s = xcv rd (zipB f a b) s) (hf : ∀ x y, f x y = op x y) (hb : ∀ k, lane b k = y k) :
    GivesBytes s i rd (fun k => op (lane a k) (y k)) := by
  obtain rfl : lane b = y := funext hb
  exact givesBytes_of_packB hp h (hf _ _) (hf _ _) (hf _ _) (hf _ _)

end

/-! ### The six forms of a mnemonic (R541, R542) -/

/-- The six forms of `F` with the values that the model gives them: `fH` on halfwords and `fB` on bytes. -/
structure AppliesOp (s : State) (rd rs1 rs2 : Reg) (imm : BitVec 6) (F : SixForms) (signed : Bool)
    (fH : BitVec 16 → BitVec 16 → BitVec 16) (fB : Byte → Byte → Byte) : Prop where
  h : exec (F.h rd rs1 rs2) s = xcv rd (zipH fH (s.reg rs1) (s.reg rs2)) s
  scH : exec (F.scH rd rs1 rs2) s = xcv rd (zipH fH (s.reg rs1) (scH (s.reg rs2))) s
  sciH : exec (F.sciH rd rs1 imm) s = xcv rd (zipH fH (s.reg rs1) (replH (immElem 16 signed imm))) s
  b : exec (F.b rd rs1 rs2) s = xcv rd (zipB fB (s.reg rs1) (s.reg rs2)) s
  scB : exec (F.scB rd rs1 rs2) s = xcv rd (zipB fB (s.reg rs1) (scB (s.reg rs2))) s
  sciB : exec (F.sciB rd rs1 imm) s = xcv rd (zipB fB (s.reg rs1) (replB (immElem 8 signed imm))) s

theorem elementWise_of_appliesOp {s : State} {rd rs1 rs2 : Reg} {imm : BitVec 6} {F : SixForms} {signed : Bool}
    {fH : BitVec 16 → BitVec 16 → BitVec 16} {fB : Byte → Byte → Byte} {op : (n : Nat) → BitVec n → BitVec n → BitVec n}
    (hp : s.cfg.corevPulp = true) (hF : AppliesOp s rd rs1 rs2 imm F signed fH fB) (hH : ∀ x y, fH x y = op 16 x y)
    (hB : ∀ x y, fB x y = op 8 x y) : ElementWise s rd rs1 rs2 imm F signed op where
  h := givesHalves_of_zipH hp hF.h hH fun _ => rfl
  scH := givesHalves_of_zipH hp hF.scH hH (half_replH _)
  sciH := givesHalves_of_zipH hp hF.sciH hH (half_replH _)
  b := givesBytes_of_zipB hp hF.b hB fun _ => rfl
  scB := givesBytes_of_zipB hp hF.scB hB (lane_replB _)
  sciB := givesBytes_of_zipB hp hF.sciB hB (lane_replB _)

end Sys2Proof.Machine
end

section
/-! SUPPORT. SIMD arithmetic, shifts and logic (spec/48_xcv_simd_alu.md R546 to R629, 49_xcv_simd_dot_shuffle_cmp_cplx.md R803 to R808):
each operation on elements of any width as the operation on integers, modulo 2^n. -/

namespace Sys2Proof.Machine

section
variable {n : Nat} (x y : BitVec n)

/-! ### Averages, minima and maxima (R558 to R593) -/

theorem elemAvg_eq_ofInt : elemAvg x y = BitVec.ofInt n ((BitVec.ofInt n (x.toInt + y.toInt)).toInt / 2) := by
  rw [elemAvg, sshiftRight_eq_ofInt, add_eq_ofInt, pow_one]

theorem elemAvgu_eq_ofNat : elemAvgu x y = BitVec.ofNat n ((x.toNat + y.toNat) % 2 ^ n / 2) := by
  rw [elemAvgu, ushiftRight_eq_ofNat, BitVec.toNat_add, pow_one]

theorem elemMin_eq_ofInt : elemMin x y = BitVec.ofInt n (min x.toInt y.toInt) := by
  simp only [elemMin, BitVec.slt_iff_toInt_lt]
  split
  next h => rw [min_eq_left h.le, BitVec.ofInt_toInt]
  next h => rw [min_eq_right (not_lt.1 h), BitVec.ofInt_toInt]

theorem elemMax_eq_ofInt : elemMax x y = BitVec.ofInt n (max x.toInt y.toInt) := by
  simp only [elemMax, BitVec.slt_iff_toInt_lt]
  split
  next h => rw [max_eq_left h.le, BitVec.ofInt_toInt]
  next h => rw [max_eq_right (not_lt.1 h), BitVec.ofInt_toInt]

theorem elemMinu_eq_ofNat : elemMinu x y = BitVec.ofNat n (min x.toNat y.toNat) := by
  simp only [elemMinu, BitVec.ult_iff_toNat_lt]
  split
  next h => exact eq_ofNat (min_eq_left h.le).symm
  next h => exact eq_ofNat (min_eq_right (not_lt.1 h)).symm

theorem elemMaxu_eq_ofNat : elemMaxu x y = BitVec.ofNat n (max x.toNat y.toNat) := by
  simp only [elemMaxu, BitVec.ult_iff_toNat_lt]
  split
  next h => exact eq_ofNat (max_eq_left h.le).symm
  next h => exact eq_ofNat (max_eq_right (not_lt.1 h)).symm

/-! ### Shifts (R594 to R611) -/

theorem elemAmount_eq_mod (k : Nat) : elemAmount k y = y.toNat % 2 ^ k := BitVec.extractLsb'_toNat ..

theorem elemSrl_eq_ofNat (k : Nat) : elemSrl k x y = BitVec.ofNat n (x.toNat / 2 ^ (y.toNat % 2 ^ k)) := by
  rw [elemSrl, ushiftRight_eq_ofNat, elemAmount_eq_mod]

theorem elemSra_eq_ofInt (k : Nat) : elemSra k x y = BitVec.ofInt n (x.toInt / 2 ^ (y.toNat % 2 ^ k)) := by
  rw [elemSra, sshiftRight_eq_ofInt, elemAmount_eq_mod]

theorem elemSll_eq_ofNat (k : Nat) : elemSll k x y = BitVec.ofNat n (x.toNat * 2 ^ (y.toNat % 2 ^ k)) := by
  rw [elemSll, shiftLeft_eq_ofNat, elemAmount_eq_mod]

/-! ### Sums and differences with division (49 R803 to R808) -/

theorem add_sshiftRight_eq_ofInt (k : Nat) :
    (x + y).sshiftRight k = BitVec.ofInt n ((BitVec.ofInt n (x.toInt + y.toInt)).toInt / 2 ^ k) := by
  rw [sshiftRight_eq_ofInt, add_eq_ofInt]

theorem sub_sshiftRight_eq_ofInt (k : Nat) :
    (x - y).sshiftRight k = BitVec.ofInt n ((BitVec.ofInt n (x.toInt - y.toInt)).toInt / 2 ^ k) := by
  rw [sshiftRight_eq_ofInt, sub_eq_ofInt]

end

/-! ### The statement -/

/-- Settles O58: the six forms of a mnemonic apply one operation of the model, and that operation is the claim's on the integers. -/
theorem simdElementwise : Obligations.SimdElementwise := by
  intro s rd rs1 rs2 imm hp e two sum dif
  have hforms : ∀ {F signed fH fB} {op : (n : Nat) → BitVec n → BitVec n → BitVec n},
      AppliesOp s rd rs1 rs2 imm F signed fH fB → (∀ x y, fH x y = op 16 x y) → (∀ x y, fB x y = op 8 x y) → e F signed op :=
    elementWise_of_appliesOp hp
  have htwo : ∀ {i f} {op : BitVec 16 → BitVec 16 → Int}, exec i s = xcv rd (zipH f (s.reg rs1) (s.reg rs2)) s →
      (∀ x y, f x y = BitVec.ofInt 16 (op x y)) → two i op :=
    fun h hf => givesHalves_of_zipH hp h hf fun _ => rfl
  exact
    ⟨hforms ⟨rfl, rfl, rfl, rfl, rfl, rfl⟩ add_eq_ofInt add_eq_ofInt,
      hforms ⟨rfl, rfl, rfl, rfl, rfl, rfl⟩ sub_eq_ofInt sub_eq_ofInt,
      hforms ⟨rfl, rfl, rfl, rfl, rfl, rfl⟩ elemAvg_eq_ofInt elemAvg_eq_ofInt,
      hforms ⟨rfl, rfl, rfl, rfl, rfl, rfl⟩ elemAvgu_eq_ofNat elemAvgu_eq_ofNat,
      hforms ⟨rfl, rfl, rfl, rfl, rfl, rfl⟩ elemMin_eq_ofInt elemMin_eq_ofInt,
      hforms ⟨rfl, rfl, rfl, rfl, rfl, rfl⟩ elemMinu_eq_ofNat elemMinu_eq_ofNat,
      hforms ⟨rfl, rfl, rfl, rfl, rfl, rfl⟩ elemMax_eq_ofInt elemMax_eq_ofInt,
      hforms ⟨rfl, rfl, rfl, rfl, rfl, rfl⟩ elemMaxu_eq_ofNat elemMaxu_eq_ofNat,
      hforms ⟨rfl, rfl, rfl, rfl, rfl, rfl⟩ (elemSrl_eq_ofNat · · 4) (elemSrl_eq_ofNat · · 3),
      hforms ⟨rfl, rfl, rfl, rfl, rfl, rfl⟩ (elemSra_eq_ofInt · · 4) (elemSra_eq_ofInt · · 3),
      hforms ⟨rfl, rfl, rfl, rfl, rfl, rfl⟩ (elemSll_eq_ofNat · · 4) (elemSll_eq_ofNat · · 3),
      hforms ⟨rfl, rfl, rfl, rfl, rfl, rfl⟩ (fun _ _ => rfl) (fun _ _ => rfl),
      hforms ⟨rfl, rfl, rfl, rfl, rfl, rfl⟩ (fun _ _ => rfl) (fun _ _ => rfl),
      hforms ⟨rfl, rfl, rfl, rfl, rfl, rfl⟩ (fun _ _ => rfl) (fun _ _ => rfl),
      htwo rfl (add_sshiftRight_eq_ofInt · · 1),
      htwo rfl (add_sshiftRight_eq_ofInt · · 2),
      htwo rfl (add_sshiftRight_eq_ofInt · · 3),
      htwo rfl (sub_sshiftRight_eq_ofInt · · 1),
      htwo rfl (sub_sshiftRight_eq_ofInt · · 2),
      htwo rfl (sub_sshiftRight_eq_ofInt · · 3)⟩

end Sys2Proof.Machine
end

section
/-! SUPPORT. SIMD extraction, shuffles, packing and complex numbers (spec/48_xcv_simd_alu.md R630 to R637,
49_xcv_simd_dot_shuffle_cmp_cplx.md R662, R700 to R712, R780 to R802): the element that a selector names, and the complex products as
integers modulo 2^32. -/

namespace Sys2Proof.Machine

/-! ### Selectors (49 R662) -/

/-- A selector is a number modulo the number of elements. -/
theorem toNat_extractLsb'_eq_mod {n : Nat} (x : BitVec n) (i m : Nat) : (x.extractLsb' i m).toNat = x.toNat / 2 ^ i % 2 ^ m := by
  rw [BitVec.extractLsb'_toNat, Nat.shiftRight_eq_div_pow]

/-- The low bits of an element are those of the vector from the element's position on. -/
theorem toNat_extractLsb'_mod {n : Nat} (x : BitVec n) (i : Nat) {l m : Nat} (h : m ≤ l) :
    (x.extractLsb' i l).toNat % 2 ^ m = (x.extractLsb' i m).toNat := by
  rw [BitVec.extractLsb'_toNat, BitVec.extractLsb'_toNat, Nat.mod_mod_of_dvd _ (pow_dvd_pow 2 h)]

theorem halfSel_eq_half (v : Word) (j : BitVec 1) : halfSel v j = half v ⟨j.toNat, j.isLt⟩ := by
  rcases BitVec.eq_zero_or_eq_one j with rfl | rfl
  · rfl
  · rfl

section
variable (v : Word) {n : Nat} (x : BitVec n) (i : Nat)

theorem halfSel_extractLsb' : halfSel v (x.extractLsb' i 1) = half v ⟨x.toNat / 2 ^ i % 2, Nat.mod_lt _ (by decide)⟩ :=
  (halfSel_eq_half v _).trans (congrArg (half v) (Fin.ext (toNat_extractLsb'_eq_mod x i 1)))

theorem byteSel_extractLsb' : byteSel v (x.extractLsb' i 2) = lane v ⟨x.toNat / 2 ^ i % 4, Nat.mod_lt _ (by decide)⟩ :=
  congrArg (byteOf v) (toNat_extractLsb'_eq_mod x i 2)

end

section
variable (v b : Word)

/-- Element `k` of a vector of selectors. -/
theorem halfSel_half (k : Fin 2) :
    halfSel v (b.extractLsb' (16 * k.val) 1) = half v ⟨(half b k).toNat % 2, Nat.mod_lt _ (by decide)⟩ :=
  (halfSel_eq_half v _).trans (congrArg (half v) (Fin.ext (toNat_extractLsb'_mod b _ (by decide : 1 ≤ 16)).symm))

theorem byteSel_lane (k : Fin 4) :
    byteSel v (b.extractLsb' (8 * k.val) 2) = lane v ⟨(lane b k).toNat % 4, Nat.mod_lt _ (by decide)⟩ :=
  congrArg (byteOf v) (toNat_extractLsb'_mod b _ (by decide : 2 ≤ 8)).symm

/-- The bit above the selector names the vector that the element comes from (R707). -/
theorem halfSel_pick (d : Word) (k : Fin 2) : halfSel (pick (b.getLsbD (16 * k.val + 1)) v d) (b.extractLsb' (16 * k.val) 1) =
    half (if (half b k).getLsbD 1 then v else d) ⟨(half b k).toNat % 2, Nat.mod_lt _ (by decide)⟩ := by
  have hbit : (half b k).getLsbD 1 = b.getLsbD (16 * k.val + 1) := BitVec.getLsbD_extractLsb' ..
  rw [halfSel_half, hbit, pick]

theorem byteSel_pick (d : Word) (k : Fin 4) : byteSel (pick (b.getLsbD (8 * k.val + 2)) v d) (b.extractLsb' (8 * k.val) 2) =
    lane (if (lane b k).getLsbD 2 then v else d) ⟨(lane b k).toNat % 4, Nat.mod_lt _ (by decide)⟩ := by
  have hbit : (lane b k).getLsbD 2 = b.getLsbD (8 * k.val + 2) := BitVec.getLsbD_extractLsb' ..
  rw [byteSel_lane, hbit, pick]

end

/-! ### Absolute values and insertion (R630 to R637) -/

theorem neg_eq_ofInt {n : Nat} (x : BitVec n) : -x = BitVec.ofInt n (-x.toInt) := by
  rw [BitVec.ofInt_neg, BitVec.ofInt_toInt]

/-- The negation of the most negative element wraps to itself, on both sides. -/
theorem elemAbs_eq_ofInt {n : Nat} (x : BitVec n) : elemAbs x = BitVec.ofInt n |x.toInt| := by
  have hneg : x.slt 0 = true ↔ x.toInt < 0 := BitVec.slt_iff_toInt_lt.trans (by rw [BitVec.ofNat_eq_ofNat, BitVec.toInt_zero])
  simp only [elemAbs, hneg]
  split
  next h => rw [abs_of_neg h, neg_eq_ofInt]
  next h => rw [abs_of_nonneg (not_lt.1 h), BitVec.ofInt_toInt]

/-- Vector `d` with element `j` replaced by `v`. -/
def replaced {m n : Nat} (d : Fin m → BitVec n) (j : Nat) (v : BitVec n) (k : Fin m) : BitVec n :=
  if k.val = j then v else d k

theorem insertHalf_eq_packH (d : Word) (j : BitVec 1) (v : BitVec 16) :
    insertHalf d j v = packH (replaced (half d) j.toNat v 1) (replaced (half d) j.toNat v 0) := by
  rcases BitVec.eq_zero_or_eq_one j with rfl | rfl
  · rfl
  · rfl

theorem byte_selected_iff (j : BitVec 2) (k : Fin 4) : j = BitVec.ofNat 2 k.val ↔ k.val = j.toNat := by
  revert j k; decide

theorem insertByte_eq_packB (d : Word) (j : BitVec 2) (v : Byte) : insertByte d j v =
    packB (replaced (lane d) j.toNat v 3) (replaced (lane d) j.toNat v 2) (replaced (lane d) j.toNat v 1)
      (replaced (lane d) j.toNat v 0) := by
  have hk : ∀ k : Fin 4, (if j = BitVec.ofNat 2 k.val then v else byteOf d k.val) = replaced (lane d) j.toNat v k :=
    fun k => if_congr (byte_selected_iff j k) rfl rfl
  rw [← hk, ← hk, ← hk, ← hk]
  rfl

/-! ### Packing (R709 to R712) -/

theorem append_loHalf_eq_packB (x y : Byte) (d : Word) : x ++ y ++ loHalf d = packB x y (lane d 1) (lane d 0) := by
  have hlo : lane d 1 ++ lane d 0 = loHalf d := BitVec.extractLsb'_append_extractLsb'_eq_extractLsb' rfl
  rw [← hlo]
  exact BitVec.append_assoc'

theorem hiHalf_append_eq_packB (d : Word) (x y : Byte) : hiHalf d ++ x ++ y = packB (lane d 3) (lane d 2) x y := by
  have hhi : lane d 3 ++ lane d 2 = hiHalf d := BitVec.extractLsb'_append_extractLsb'_eq_extractLsb' rfl
  rw [← hhi]
  rfl

/-! ### Complex numbers (R780 to R798) -/

section
variable (a b : Word)

theorem mulSS_eq_ofInt (x y : BitVec 16) : mulSS x y = BitVec.ofInt 32 (x.toInt * y.toInt) := mulHalfS_eq_ofInt x y

theorem cplxReal_eq_ofInt : cplxReal a b =
    BitVec.ofInt 32 ((half a 0).toInt * (half b 0).toInt - (half a 1).toInt * (half b 1).toInt) := by
  rw [Int.sub_eq_add_neg, BitVec.ofInt_add, BitVec.ofInt_neg, ← BitVec.sub_eq_add_neg, ← mulSS_eq_ofInt, ← mulSS_eq_ofInt]
  rfl

theorem cplxImag_eq_ofInt : cplxImag a b =
    BitVec.ofInt 32 ((half a 0).toInt * (half b 1).toInt + (half a 1).toInt * (half b 0).toInt) := by
  rw [BitVec.ofInt_add, ← mulSS_eq_ofInt, ← mulSS_eq_ofInt]
  rfl

end

theorem loHalf_ofInt (z : Int) : loHalf (BitVec.ofInt 32 z) = BitVec.ofInt 16 z := by
  apply BitVec.eq_of_toNat_eq
  rw [loHalf_eq_setWidth, BitVec.toNat_setWidth, BitVec.toNat_ofInt, BitVec.toNat_ofInt]
  omega

theorem cplxShift_eq_ofInt {t : Word} {z : Int} (h : t = BitVec.ofInt 32 z) (k : Nat) :
    cplxShift k t = BitVec.ofInt 16 ((BitVec.ofInt 32 z).toInt / 2 ^ k) := by
  rw [cplxShift, h, sshiftRight_eq_ofInt, loHalf_ofInt]

/-! ### The statement -/

/-- Settles O60: each instruction packs its elements, and each element is the claim's: an element that a selector names, one of an
operand or of the old `rd`, or the low half of a complex product that was shifted. -/
theorem simdShufflesAndComplex : Obligations.SimdShufflesAndComplex := by
  intro s rd rs1 rs2 imm hp a b d hs bs selH selB re im sh rot
  have hsel := byteSel_extractLsb' a imm
  have hre := cplxReal_eq_ofInt a b
  have him := cplxImag_eq_ofInt a b
  exact
    ⟨⟨givesHalves_of_packH hp rfl (elemAbs_eq_ofInt _) (elemAbs_eq_ofInt _),
        givesBytes_of_packB hp rfl (elemAbs_eq_ofInt _) (elemAbs_eq_ofInt _) (elemAbs_eq_ofInt _) (elemAbs_eq_ofInt _),
        gives_of_xcv hp rfl (congrArg (BitVec.signExtend 32) (halfSel_eq_half a _)),
        gives_of_xcv hp rfl rfl,
        gives_of_xcv hp rfl (congrArg (BitVec.setWidth 32) (halfSel_eq_half a _)),
        gives_of_xcv hp rfl rfl,
        givesHalves_of_xcv hp rfl (insertHalf_eq_packH d _ _),
        givesBytes_of_xcv hp rfl (insertByte_eq_packB d _ _)⟩,
      ⟨givesHalves_of_packH hp rfl (halfSel_half a b 1) (halfSel_half a b 0),
        givesHalves_of_packH hp rfl (halfSel_extractLsb' a imm 1) (halfSel_extractLsb' a imm 0),
        givesBytes_of_packB hp rfl (byteSel_lane a b 3) (byteSel_lane a b 2) (byteSel_lane a b 1) (byteSel_lane a b 0),
        givesBytes_of_packB hp rfl rfl (hsel 4) (hsel 2) (hsel 0),
        givesBytes_of_packB hp rfl rfl (hsel 4) (hsel 2) (hsel 0),
        givesBytes_of_packB hp rfl rfl (hsel 4) (hsel 2) (hsel 0),
        givesBytes_of_packB hp rfl rfl (hsel 4) (hsel 2) (hsel 0),
        givesHalves_of_packH hp rfl (halfSel_pick a b d 1) (halfSel_pick a b d 0),
        givesBytes_of_packB hp rfl (byteSel_pick a b d 3) (byteSel_pick a b d 2) (byteSel_pick a b d 1) (byteSel_pick a b d 0),
        givesHalves_of_packH hp rfl rfl rfl,
        givesHalves_of_packH hp rfl rfl rfl,
        givesBytes_of_xcv hp rfl (append_loHalf_eq_packB _ _ d),
        givesBytes_of_xcv hp rfl (hiHalf_append_eq_packB d _ _)⟩,
      ⟨givesHalves_of_packH hp rfl rfl (cplxShift_eq_ofInt hre 15),
        givesHalves_of_packH hp rfl rfl (cplxShift_eq_ofInt hre 16),
        givesHalves_of_packH hp rfl rfl (cplxShift_eq_ofInt hre 17),
        givesHalves_of_packH hp rfl rfl (cplxShift_eq_ofInt hre 18),
        givesHalves_of_packH hp rfl (cplxShift_eq_ofInt him 15) rfl,
        givesHalves_of_packH hp rfl (cplxShift_eq_ofInt him 16) rfl,
        givesHalves_of_packH hp rfl (cplxShift_eq_ofInt him 17) rfl,
        givesHalves_of_packH hp rfl (cplxShift_eq_ofInt him 18) rfl,
        givesHalves_of_packH hp rfl (neg_eq_ofInt _) rfl⟩,
      givesHalves_of_packH hp rfl (sub_sshiftRight_eq_ofInt _ _ 0) (sub_sshiftRight_eq_ofInt _ _ 0),
      givesHalves_of_packH hp rfl (sub_sshiftRight_eq_ofInt _ _ 1) (sub_sshiftRight_eq_ofInt _ _ 1),
      givesHalves_of_packH hp rfl (sub_sshiftRight_eq_ofInt _ _ 2) (sub_sshiftRight_eq_ofInt _ _ 2),
      givesHalves_of_packH hp rfl (sub_sshiftRight_eq_ofInt _ _ 3) (sub_sshiftRight_eq_ofInt _ _ 3)⟩

end Sys2Proof.Machine
end

section
/-! SUPPORT. SIMD comparisons and dot products (spec/49_xcv_simd_dot_shuffle_cmp_cplx.md R713 to R779, R660 to R699): a comparison as a
condition on integers, a dot product as a sum of products modulo 2^32, and the immediate of the unsigned forms (93 U11). -/

namespace Sys2Proof.Machine

/-! ### Comparisons (R714) -/

section
variable {n : Nat} (x y : BitVec n)

theorem elemEq_eq_ite : elemEq x y = if x = y then -1 else 0 := if_congr beq_iff_eq rfl rfl

theorem elemNe_eq_ite : elemNe x y = if x = y then 0 else -1 := (if_congr bne_iff_ne rfl rfl).trans (ite_not ..)

theorem elemLt_eq_ite : elemLt x y = if x.toInt < y.toInt then -1 else 0 := if_congr BitVec.slt_iff_toInt_lt rfl rfl

theorem elemLe_eq_ite : elemLe x y = if x.toInt ≤ y.toInt then -1 else 0 := if_congr BitVec.sle_iff_toInt_le rfl rfl

theorem elemLtu_eq_ite : elemLtu x y = if x.toNat < y.toNat then -1 else 0 := if_congr BitVec.ult_iff_toNat_lt rfl rfl

theorem elemLeu_eq_ite : elemLeu x y = if x.toNat ≤ y.toNat then -1 else 0 := if_congr BitVec.ule_iff_toNat_le rfl rfl

end

/-! ### The immediate of the unsigned forms (R660, 93 U11) -/

theorem sciDH_eq_replH (c : Config) (imm : BitVec 6) : sciDH c imm = replH (immElem 16 c.unsignedSciSignExtends imm) :=
  (apply_ite replH ..).symm

theorem sciDB_eq_replB (c : Config) (imm : BitVec 6) : sciDB c imm = replB (immElem 8 c.unsignedSciSignExtends imm) :=
  (apply_ite replB ..).symm

/-! ### Dot products (R661) -/

section
variable {n : Nat} (x y : BitVec n)

theorem setWidth_eq_ofInt_elemInt : x.setWidth 32 = BitVec.ofInt 32 (elemInt false x) := by
  rw [← BitVec.ofNat_toNat, ← BitVec.ofInt_natCast]
  rfl

theorem signExtend_eq_ofInt_elemInt : x.signExtend 32 = BitVec.ofInt 32 (elemInt true x) := rfl

theorem mulUU_eq_ofInt_elemInt : mulUU x y = BitVec.ofInt 32 (elemInt false x * elemInt false y) := by
  rw [mulUU, BitVec.ofInt_mul, setWidth_eq_ofInt_elemInt, setWidth_eq_ofInt_elemInt]

theorem mulUS_eq_ofInt_elemInt : mulUS x y = BitVec.ofInt 32 (elemInt false x * elemInt true y) := by
  rw [mulUS, BitVec.ofInt_mul, setWidth_eq_ofInt_elemInt, signExtend_eq_ofInt_elemInt]

theorem mulSS_eq_ofInt_elemInt : mulSS x y = BitVec.ofInt 32 (elemInt true x * elemInt true y) := by
  rw [mulSS, BitVec.ofInt_mul, signExtend_eq_ofInt_elemInt, signExtend_eq_ofInt_elemInt]

end

section
variable {s : State} {i : Instr} {rd : Reg} {a b : Word} {sx sy : Bool} {acc : Int} {add : Word → Word}

/-- A dot product of halfword vectors, the second one given by its elements, accumulated by `add`. -/
theorem gives_of_dotH {m : BitVec 16 → BitVec 16 → Word} {y : Fin 2 → BitVec 16} (hp : s.cfg.corevPulp = true)
    (h : exec i s = xcv rd (add (dotH m a b)) s) (hm : ∀ x y, m x y = BitVec.ofInt 32 (elemInt sx x * elemInt sy y))
    (hadd : ∀ z, add (BitVec.ofInt 32 z) = BitVec.ofInt 32 (acc + z)) (hb : ∀ k, half b k = y k) :
    Gives s i 4 rd (BitVec.ofInt 32 (acc + ∑ k, elemInt sx (half a k) * elemInt sy (y k))) := by
  obtain rfl : half b = y := funext hb
  have hdot : dotH m a b = BitVec.ofInt 32 (∑ k, elemInt sx (half a k) * elemInt sy (half b k)) := by
    rw [Fin.sum_univ_two, BitVec.ofInt_add, ← hm, ← hm]
    rfl
  exact gives_of_xcv hp h (by rw [hdot, hadd])

/-- The same for bytes. -/
theorem gives_of_dotB {m : Byte → Byte → Word} {y : Fin 4 → Byte} (hp : s.cfg.corevPulp = true)
    (h : exec i s = xcv rd (add (dotB m a b)) s) (hm : ∀ x y, m x y = BitVec.ofInt 32 (elemInt sx x * elemInt sy y))
    (hadd : ∀ z, add (BitVec.ofInt 32 z) = BitVec.ofInt 32 (acc + z)) (hb : ∀ k, lane b k = y k) :
    Gives s i 4 rd (BitVec.ofInt 32 (acc + ∑ k, elemInt sx (lane a k) * elemInt sy (y k))) := by
  obtain rfl : lane b = y := funext hb
  have hdot : dotB m a b = BitVec.ofInt 32 (∑ k, elemInt sx (lane a k) * elemInt sy (lane b k)) := by
    rw [Fin.sum_univ_four, BitVec.ofInt_add, BitVec.ofInt_add, BitVec.ofInt_add, ← hm, ← hm, ← hm, ← hm]
    rfl
  exact gives_of_xcv hp h (by rw [hdot, hadd])

end

/-- The six forms of `F` with the values that the model gives them: dot products of the products `mH` and `mB`, accumulated
by `add`. -/
structure AppliesDot (s : State) (rd rs1 rs2 : Reg) (imm : BitVec 6) (F : SixForms) (signed : Bool)
    (mH : BitVec 16 → BitVec 16 → Word) (mB : Byte → Byte → Word) (add : Word → Word) : Prop where
  h : exec (F.h rd rs1 rs2) s = xcv rd (add (dotH mH (s.reg rs1) (s.reg rs2))) s
  scH : exec (F.scH rd rs1 rs2) s = xcv rd (add (dotH mH (s.reg rs1) (scH (s.reg rs2)))) s
  sciH : exec (F.sciH rd rs1 imm) s = xcv rd (add (dotH mH (s.reg rs1) (replH (immElem 16 signed imm)))) s
  b : exec (F.b rd rs1 rs2) s = xcv rd (add (dotB mB (s.reg rs1) (s.reg rs2))) s
  scB : exec (F.scB rd rs1 rs2) s = xcv rd (add (dotB mB (s.reg rs1) (scB (s.reg rs2)))) s
  sciB : exec (F.sciB rd rs1 imm) s = xcv rd (add (dotB mB (s.reg rs1) (replB (immElem 8 signed imm)))) s

theorem dotProducts_of_appliesDot {s : State} {rd rs1 rs2 : Reg} {imm : BitVec 6} {F : SixForms} {signed sx sy : Bool} {acc : Int}
    {mH : BitVec 16 → BitVec 16 → Word} {mB : Byte → Byte → Word} {add : Word → Word} (hp : s.cfg.corevPulp = true)
    (hF : AppliesDot s rd rs1 rs2 imm F signed mH mB add) (hH : ∀ x y, mH x y = BitVec.ofInt 32 (elemInt sx x * elemInt sy y))
    (hB : ∀ x y, mB x y = BitVec.ofInt 32 (elemInt sx x * elemInt sy y))
    (hadd : ∀ z, add (BitVec.ofInt 32 z) = BitVec.ofInt 32 (acc + z)) : DotProducts s rd rs1 rs2 imm F signed sx sy acc where
  h := gives_of_dotH hp hF.h hH hadd fun _ => rfl
  scH := gives_of_dotH hp hF.scH hH hadd (half_replH _)
  sciH := gives_of_dotH hp hF.sciH hH hadd (half_replH _)
  b := gives_of_dotB hp hF.b hB hadd fun _ => rfl
  scB := gives_of_dotB hp hF.scB hB hadd (lane_replB _)
  sciB := gives_of_dotB hp hF.sciB hB hadd (lane_replB _)

theorem add_ofInt_eq (d : Word) (z : Int) : d + BitVec.ofInt 32 z = BitVec.ofInt 32 (d.toInt + z) := by
  rw [BitVec.ofInt_add, BitVec.ofInt_toInt]

/-! ### The statement -/

/-- Settles O59: the six forms of a mnemonic apply one comparison, or one kind of product with or without the old `rd`; the unsigned
immediate forms differ only in how the model words the extension of the immediate. -/
theorem simdComparesAndDots : Obligations.SimdComparesAndDots := by
  intro s rd rs1 rs2 imm hp e u dot acc
  have hcompare : ∀ {F signed fH fB} {op : (n : Nat) → BitVec n → BitVec n → BitVec n},
      AppliesOp s rd rs1 rs2 imm F signed fH fB → (∀ x y, fH x y = op 16 x y) → (∀ x y, fB x y = op 8 x y) → e F signed op :=
    elementWise_of_appliesOp hp
  have hdot : ∀ {F signed sx sy mH mB}, AppliesDot s rd rs1 rs2 imm F signed mH mB (fun w => w) →
      (∀ x y, mH x y = BitVec.ofInt 32 (elemInt sx x * elemInt sy y)) →
      (∀ x y, mB x y = BitVec.ofInt 32 (elemInt sx x * elemInt sy y)) → dot F signed sx sy 0 :=
    fun hF hH hB => dotProducts_of_appliesDot hp hF hH hB fun z => by rw [Int.zero_add]
  have hsdot : ∀ {F signed sx sy mH mB}, AppliesDot s rd rs1 rs2 imm F signed mH mB (s.reg rd + ·) →
      (∀ x y, mH x y = BitVec.ofInt 32 (elemInt sx x * elemInt sy y)) →
      (∀ x y, mB x y = BitVec.ofInt 32 (elemInt sx x * elemInt sy y)) → dot F signed sx sy acc :=
    fun hF hH hB => dotProducts_of_appliesDot hp hF hH hB (add_ofInt_eq _)
  have hu16 := sciDH_eq_replH s.cfg imm
  have hu8 := sciDB_eq_replB s.cfg imm
  exact
    ⟨hcompare ⟨rfl, rfl, rfl, rfl, rfl, rfl⟩ elemEq_eq_ite elemEq_eq_ite,
      hcompare ⟨rfl, rfl, rfl, rfl, rfl, rfl⟩ elemNe_eq_ite elemNe_eq_ite,
      hcompare ⟨rfl, rfl, rfl, rfl, rfl, rfl⟩ (fun x y => elemLt_eq_ite y x) (fun x y => elemLt_eq_ite y x),
      hcompare ⟨rfl, rfl, rfl, rfl, rfl, rfl⟩ (fun x y => elemLe_eq_ite y x) (fun x y => elemLe_eq_ite y x),
      hcompare ⟨rfl, rfl, rfl, rfl, rfl, rfl⟩ elemLt_eq_ite elemLt_eq_ite,
      hcompare ⟨rfl, rfl, rfl, rfl, rfl, rfl⟩ elemLe_eq_ite elemLe_eq_ite,
      hcompare ⟨rfl, rfl, hu16 ▸ rfl, rfl, rfl, hu8 ▸ rfl⟩ (fun x y => elemLtu_eq_ite y x) (fun x y => elemLtu_eq_ite y x),
      hcompare ⟨rfl, rfl, hu16 ▸ rfl, rfl, rfl, hu8 ▸ rfl⟩ (fun x y => elemLeu_eq_ite y x) (fun x y => elemLeu_eq_ite y x),
      hcompare ⟨rfl, rfl, hu16 ▸ rfl, rfl, rfl, hu8 ▸ rfl⟩ elemLtu_eq_ite elemLtu_eq_ite,
      hcompare ⟨rfl, rfl, hu16 ▸ rfl, rfl, rfl, hu8 ▸ rfl⟩ elemLeu_eq_ite elemLeu_eq_ite,
      hdot ⟨rfl, rfl, hu16 ▸ rfl, rfl, rfl, hu8 ▸ rfl⟩ mulUU_eq_ofInt_elemInt mulUU_eq_ofInt_elemInt,
      hdot ⟨rfl, rfl, rfl, rfl, rfl, rfl⟩ mulUS_eq_ofInt_elemInt mulUS_eq_ofInt_elemInt,
      hdot ⟨rfl, rfl, rfl, rfl, rfl, rfl⟩ mulSS_eq_ofInt_elemInt mulSS_eq_ofInt_elemInt,
      hsdot ⟨rfl, rfl, hu16 ▸ rfl, rfl, rfl, hu8 ▸ rfl⟩ mulUU_eq_ofInt_elemInt mulUU_eq_ofInt_elemInt,
      hsdot ⟨rfl, rfl, rfl, rfl, rfl, rfl⟩ mulUS_eq_ofInt_elemInt mulUS_eq_ofInt_elemInt,
      hsdot ⟨rfl, rfl, rfl, rfl, rfl, rfl⟩ mulSS_eq_ofInt_elemInt mulSS_eq_ofInt_elemInt⟩

end Sys2Proof.Machine
end

section
/-! SUPPORT. What happens instead of the instruction at the pc (spec/60_exceptions.md R819, R829 to R833, R851 to R856), and sleep
(R880): which interrupt is selected, and each line of R819 as an equation under the conditions that lead to it. -/

namespace Sys2Proof.Machine

/-! ### The interrupt of highest priority (R829) -/

/-- In a list in order of rank, a search finds the element that passes and that no other one which passes outranks. -/
theorem find?_eq_some_iff_of_pairwise {α : Type} {R : α → α → Prop} {p : α → Bool} {l : List α} {a : α}
    (hR : ∀ x y, R x y → ¬ R y x) (hl : l.Pairwise R) :
    l.find? p = some a ↔ p a = true ∧ a ∈ l ∧ ∀ b ∈ l, R b a → p b = false := by
  induction hl with
  | nil => simp
  | @cons x l hx _ ih =>
    have hirrefl : ∀ y, ¬ R y y := fun y h => hR y y h h
    cases hp : p x
    · have hne : ∀ {b}, p b = true → b ≠ x := fun hb e => Bool.noConfusion (hp.symm.trans (e ▸ hb))
      rw [List.find?_cons_of_neg (by rw [hp]; decide), ih]
      refine and_congr_right fun ha => ?_
      simp only [List.mem_cons, forall_eq_or_imp, hne ha, false_or, hp, implies_true, true_and]
    · rw [List.find?_cons_of_pos hp]
      constructor
      · rintro ⟨⟩
        refine ⟨hp, List.mem_cons_self, fun b hb hrank => ?_⟩
        rcases List.mem_cons.1 hb with rfl | hb
        · exact absurd hrank (hirrefl b)
        · exact absurd hrank (hR _ _ (hx b hb))
      · rintro ⟨-, ha, hnone⟩
        rcases List.mem_cons.1 ha with rfl | ha
        · rfl
        · exact Bool.noConfusion (hp.symm.trans (hnone x List.mem_cons_self (hx a ha)))

/-- Interrupt `n` has a higher priority than interrupt `id`. -/
def Outranks (n id : Nat) : Prop :=
  (16 ≤ id ∧ id < n) ∨ (id = 11 ∧ 16 ≤ n) ∨ (id = 3 ∧ (16 ≤ n ∨ n = 11)) ∨ (id = 7 ∧ (16 ≤ n ∨ n = 11 ∨ n = 3))

section
variable {n id : Nat}

theorem outranks_of_high (h : 16 ≤ id) : Outranks n id ↔ id < n := by unfold Outranks; omega

theorem outranks_eleven : Outranks n (11#5).toNat ↔ 16 ≤ n := by
  show Outranks n 11 ↔ _
  unfold Outranks; omega

theorem outranks_three : Outranks n (3#5).toNat ↔ 16 ≤ n ∨ n = 11 := by
  show Outranks n 3 ↔ _
  unfold Outranks; omega

theorem outranks_seven : Outranks n (7#5).toNat ↔ 16 ≤ n ∨ n = 11 ∨ n = 3 := by
  show Outranks n 7 ↔ _
  unfold Outranks; omega

end

theorem mem_interruptOrder_iff (id : BitVec 5) : id ∈ interruptOrder ↔ 16 ≤ id.toNat ∨ id = 11 ∨ id = 3 ∨ id = 7 := by
  revert id; decide

theorem outranks_asymm {n id : Nat} (h : Outranks n id) : ¬ Outranks id n := by unfold Outranks at *; omega

/-- What outranks an interrupt is a usable interrupt itself. -/
theorem mem_interruptOrder_of_outranks {n : BitVec 5} {id : Nat} (h : Outranks n.toNat id) : n ∈ interruptOrder := by
  have heq : ∀ k < 32, n.toNat = k → n = BitVec.ofNat 5 k := fun _ _ e => eq_ofNat e
  rw [mem_interruptOrder_iff]
  rcases h with ⟨hid, hlt⟩ | ⟨-, hge⟩ | ⟨-, hge | h11⟩ | ⟨-, hge | h11 | h3⟩
  · exact .inl (by omega)
  · exact .inl hge
  · exact .inl hge
  · exact .inr (.inl (heq 11 (by decide) h11))
  · exact .inl hge
  · exact .inr (.inl (heq 11 (by decide) h11))
  · exact .inr (.inr (.inl (heq 3 (by decide) h3)))

/-- The order of the model is that of the priorities. -/
theorem pairwise_interruptOrder : interruptOrder.Pairwise fun a b => Outranks a.toNat b.toNat := by
  unfold Outranks; decide

theorem selectInterrupt_eq_some_iff {m : Word} {id : BitVec 5} : selectInterrupt m = some id ↔
    m.getLsbD id.toNat = true ∧ id ∈ interruptOrder ∧ ∀ n < 32, Outranks n id.toNat → m.getLsbD n = false := by
  rw [selectInterrupt, find?_eq_some_iff_of_pairwise (fun _ _ => outranks_asymm) pairwise_interruptOrder]
  refine and_congr_right fun _ => and_congr_right fun _ => ⟨fun h n hn hrank => ?_, fun h n _ => h n.toNat n.isLt⟩
  exact h (BitVec.ofFin ⟨n, hn⟩) (mem_interruptOrder_of_outranks hrank) hrank

/-- Settles O10: the four alternatives of the claim are the four kinds of usable interrupts, each with those that outrank it. -/
theorem interruptPriority : Obligations.InterruptPriority := by
  intro m id
  rw [selectInterrupt_eq_some_iff, mem_interruptOrder_iff, or_and_right, or_and_right, or_and_right]
  refine and_congr_right fun _ => or_congr ?_ (or_congr ?_ (or_congr ?_ ?_))
  · exact and_congr_right fun hid =>
      ⟨fun h n hlt hn => h n hn ((outranks_of_high hid).2 hlt), fun h n hn hrank => h n ((outranks_of_high hid).1 hrank) hn⟩
  · refine and_congr_right ?_
    rintro rfl
    exact ⟨fun h n hge hn => h n hn (outranks_eleven.2 hge), fun h n hn hrank => h n (outranks_eleven.1 hrank) hn⟩
  · refine and_congr_right ?_
    rintro rfl
    refine ⟨fun h => ⟨fun n hge hn => h n hn (outranks_three.2 (.inl hge)), h 11 (by decide) (outranks_three.2 (.inr rfl))⟩, ?_⟩
    rintro ⟨hhigh, h11⟩ n hn hrank
    rcases outranks_three.1 hrank with hge | rfl
    · exact hhigh n hge hn
    · exact h11
  · refine and_congr_right ?_
    rintro rfl
    refine ⟨fun h => ⟨fun n hge hn => h n hn (outranks_seven.2 (.inl hge)), h 11 (by decide) (outranks_seven.2 (.inr (.inl rfl))),
      h 3 (by decide) (outranks_seven.2 (.inr (.inr rfl)))⟩, ?_⟩
    rintro ⟨hhigh, h11, h3⟩ n hn hrank
    rcases outranks_seven.1 hrank with hge | rfl | rfl
    · exact hhigh n hge hn
    · exact h11
    · exact h3

/-! ### The interrupt to be taken (R831, R856) -/

theorem selectInterrupt_zero : selectInterrupt 0 = none := by decide

/-- Settles O12: each condition masks on its own. -/
theorem interruptIsMasked : Obligations.InterruptIsMasked := by
  intro s h
  unfold State.interruptToTake
  rcases h with hdebug | hmie | hnone | ⟨hstep, hstepie⟩
  · rw [hdebug]; rfl
  · rw [statusMie, hmie, Bool.and_false]; rfl
  · rw [State.mip, hnone, selectInterrupt_zero, ite_self]
  · rw [hstep, hstepie, show (StepPhase.armed != .armed || false) = false from rfl, Bool.and_false]; rfl

/-- Nothing masks an interrupt outside Debug Mode with MIE set, if a single step in progress has `stepie`. -/
theorem State.interruptToTake_of_enabled {s : State} (hd : s.debugMode = false) (hm : s.mstatus.getLsbD 3 = true)
    (hp : s.stepPhase = .idle ∨ (s.stepPhase = .armed ∧ s.dcsr.getLsbD 11 = true)) :
    s.interruptToTake = selectInterrupt (s.irq &&& 0xFFFF0888 &&& s.mie) := by
  have hstep : (s.stepPhase != .armed || s.dcsr.getLsbD 11) = true := by
    rcases hp with hidle | ⟨-, hstepie⟩
    · rw [hidle]; rfl
    · rw [hstepie, Bool.or_true]
  unfold State.interruptToTake statusMie
  rw [hd, hm, hstep]
  rfl

/-! ### The lines of R819, without a debug request -/

section
variable {s : State}

theorem State.boundary_of_due (hq : s.debugReq = false) (hn : s.debugPending = false) (hp : s.stepPhase = .due) :
    s.boundary = some (s.enterDebug 4) := by
  unfold State.boundary State.debugRequested
  rw [hq, hn, hp]
  rfl

theorem State.boundary_of_interrupt {id : BitVec 5} (hq : s.debugReq = false) (hn : s.debugPending = false)
    (hp : s.stepPhase ≠ .due) (hi : s.interruptToTake = some id) : s.boundary = some (s.takeInterrupt id) := by
  unfold State.boundary State.debugRequested
  rw [hq, hn, hi, beq_false_of_ne hp]
  rfl

theorem State.boundary_of_trigger (hd : s.debugMode = false) (hq : s.debugReq = false) (hn : s.debugPending = false)
    (hp : s.stepPhase ≠ .due) (hi : s.interruptToTake = none) (ht : s.tdata1.getLsbD 2 = true) (hpc : s.pc = s.tdata2) :
    s.boundary = some (s.enterDebug 2) := by
  have hmatch : s.triggerAt s.pc = true := by simp [State.triggerAt, hd, ht, hpc]
  unfold State.boundary State.debugRequested
  rw [hq, hn, hi, hmatch, beq_false_of_ne hp]
  rfl

/-- An event of the state in which time has passed takes the place of the instruction. -/
theorem step_of_event {t : State} (hr : Runs s) (ha : Attends s) (hb : s.beginStep.boundary = some t) : step s = .next t :=
  (step_of_runs hr).trans (State.awakeStep_of_event ha hb)

end

/-! ### The statements about entering Debug Mode (R850) -/

/-- Settles O13: a debug request is the first event. -/
theorem debugRequestIsServed : Obligations.DebugRequestIsServed := fun _ hr ha hd hq =>
  ⟨_, step_of_event hr ha (State.boundary_of_request hq hd), debugEntered_enterDebug _ 3⟩

/-- Settles O14: a due single step is the second. -/
theorem singleStepEntersDebug : Obligations.SingleStepEntersDebug := fun _ hr ha _ hq hn hp =>
  ⟨_, step_of_event hr ha (State.boundary_of_due hq hn hp), debugEntered_enterDebug _ 4⟩

/-- Settles O15: without an interrupt to be taken, a trigger is the next. -/
theorem triggerEntersDebug : Obligations.TriggerEntersDebug := fun _ hr ha hd hq hn hp hi ht hpc =>
  ⟨_, step_of_event hr ha (State.boundary_of_trigger hd hq hn hp hi ht hpc), debugEntered_enterDebug _ 2⟩

/-! ### Taking an interrupt (R826, R827, R833) -/

/-- Trap entry in the model is that of the claims. -/
theorem trapTaken_enterTrap (s : State) (epc cause target : Word) :
    TrapTaken s (s.enterTrap epc cause target) epc cause target :=
  ⟨statusSaved_statusOnTrap s.mstatus, rfl⟩

theorem interruptTarget_eq (mtvec : Word) (id : BitVec 5) : interruptTarget mtvec id =
    (mtvec &&& 0xFFFFFF00) + if mtvec.getLsbD 0 then BitVec.ofNat 32 (4 * id.toNat) else 0 := by
  have hshift : id.setWidth 32 <<< 2 = BitVec.ofNat 32 (4 * id.toNat) := by
    rw [← BitVec.ofNat_toNat, shiftLeft_eq_ofNat]
    bv_omega
  unfold interruptTarget trapBase
  split
  · rw [hshift]
  · exact (BitVec.add_zero _).symm

/-- Taking an interrupt is trap entry with its number acknowledged. -/
theorem trapTaken_takeInterrupt (s : State) (id : BitVec 5) :
    TrapTaken { s with irqAck := some id } (s.takeInterrupt id) s.pc (0x80000000 ||| BitVec.ofNat 32 id.toNat)
      ((s.mtvec &&& 0xFFFFFF00) + if s.mtvec.getLsbD 0 then BitVec.ofNat 32 (4 * id.toNat) else 0) := by
  rw [← interruptTarget_eq, BitVec.ofNat_toNat]
  exact trapTaken_enterTrap { s with irqAck := some id } ..

/-- Settles O11: the interrupt that nothing masks is the first event, a single step that is not due included. -/
theorem interruptIsTaken : Obligations.InterruptIsTaken := by
  intro s id hr ha hd hq hn hp hm hsel
  have hnotDue : s.stepPhase ≠ .due := by
    rcases hp with hidle | ⟨harmed, -⟩
    · rw [hidle]; decide
    · rw [harmed]; decide
  have htake : s.beginStep.interruptToTake = some id :=
    (State.interruptToTake_of_enabled (s := s.beginStep) hd hm hp).trans hsel
  exact ⟨_, step_of_event hr ha (State.boundary_of_interrupt hq hn hnotDue htake), trapTaken_takeInterrupt s.beginStep id⟩

/-! ### Sleep (R880) -/

/-- What wakes a hart that no `cv.elw` keeps asleep. -/
theorem State.wakes_iff {s : State} (hw : s.elwWaiting = none) : s.wakes = true ↔
    s.irq &&& 0xFFFF0888 &&& s.mie ≠ 0 ∨ s.debugReq = true ∨ s.debugPending = true ∨ s.debugMode = true := by
  unfold State.wakes State.wfiWakes State.debugRequested State.mip
  rw [hw]
  simp only [Option.isSome_none, Bool.false_eq_true, if_false, Bool.or_eq_true, bne_iff_ne, or_assoc]

/-- Settles O16: the two clauses are the two directions of what wakes a hart. -/
theorem sleepUntilWoken : Obligations.SleepUntilWoken := by
  intro s hl hf hs hw
  refine ⟨fun hi hq hn hd => step_of_asleep hl hf hs ?_, (State.wakes_iff hw).2⟩
  rw [← Bool.not_eq_true, State.wakes_iff hw, hi, hq, hn, hd]
  decide

end Sys2Proof.Machine
end

section
/-! SUPPORT. The instructions that raise exceptions and that return from them (spec/60_exceptions.md R823, R824, R834, R853, R854). -/

namespace Sys2Proof.Machine

/-! ### Breakpoints (R823, R854) -/

section
variable {s : State}

theorem breakpoint_of_debug (h : s.debugMode = true) :
    breakpoint s = .next { s with pc := s.cfg.dmHaltAddr, stale := [] } := if_pos h

theorem breakpoint_of_ebreakm (hd : s.debugMode = false) (hb : s.dcsr.getLsbD 15 = true) :
    breakpoint s = .next (s.enterDebug 1) := by
  unfold breakpoint
  rw [hd, hb]
  rfl

theorem breakpoint_of_exception (hd : s.debugMode = false) (hb : s.dcsr.getLsbD 15 = false) :
    breakpoint s = .next (s.raise 3) := by
  unfold breakpoint
  rw [hd, hb]
  rfl

end

/-- Settles O20: both breakpoint instructions are the one operation, whose branches are the three clauses. -/
theorem callsAndBreakpoints : Obligations.CallsAndBreakpoints := by
  intro s
  refine ⟨raises_of_raise rfl, fun i hi => ?_⟩
  have hx : exec i s = breakpoint s := by rcases hi with rfl | rfl <;> rfl
  exact
    ⟨fun hd hb => (raises_of_raise (hx.trans (breakpoint_of_exception hd hb))).1 hd,
      fun hd hb => ⟨_, hx.trans (breakpoint_of_ebreakm hd hb), debugEntered_enterDebug s 1⟩,
      fun hd => hx.trans (breakpoint_of_debug hd)⟩

/-! ### `mret` (R834) -/

theorem machineReturn_of_debug {s : State} (h : s.debugMode = true) :
    machineReturn s = .next { s with pc := s.cfg.dmExceptionAddr, stale := [] } := if_pos h

theorem machineReturn_of_trap {s : State} (h : s.debugMode = false) :
    machineReturn s = .next (s.retire { target := some s.mepc } { s with mstatus := statusOnMret s.mstatus }) := by
  unfold machineReturn
  rw [h]
  rfl

/-- mstatus on `mret`, bit by bit (42 R308). -/
theorem getLsbD_statusOnMret (m : Word) {n : Nat} (hn : n < 32) :
    (statusOnMret m).getLsbD n = if n = 3 then m.getLsbD 7 else if n = 7 then true else m.getLsbD n := by
  have hk : ∀ n < 32, ((0xFFFFFF77 : Nat) : Word).getLsbD n = !decide (n = 3 ∨ n = 7) := by decide
  have h80 : ∀ n < 36, (0x80 : Word).getLsbD n = decide (n = 7) := by decide
  simp only [statusOnMret, BitVec.getLsbD_or, BitVec.getLsbD_and, BitVec.getLsbD_ushiftRight, hk n hn, h80 n (by omega),
    h80 (4 + n) (by omega)]
  by_cases h3 : n = 3
  · simp [h3]
  by_cases h7 : n = 7
  · simp [h7]
  · simp [h3, h7]; omega

/-- Settles O21: outside Debug Mode `mret` retires to mepc over the new mstatus, inside it is a jump. -/
theorem mretReturns : Obligations.MretReturns := fun s =>
  ⟨fun hd => ⟨_, fun _ => getLsbD_statusOnMret s.mstatus,
    completesWith_retire { target := some s.mepc } rfl (by simp [Retired.events]) rfl rfl rfl (machineReturn_of_trap hd)⟩,
    machineReturn_of_debug⟩

end Sys2Proof.Machine
end

section
/-! SUPPORT. A step that reaches the instruction at the pc (spec/60_exceptions.md R819, R822, R855, R870 to R872): what time changes,
which bytes the fetch gives and how they are read, and the steps that the model refuses. -/

namespace Sys2Proof

section
variable (b0 b1 b2 b3 : Byte)

theorem extract_bytes_low : (b3 ++ b2 ++ b1 ++ b0).extractLsb' 0 16 = b1 ++ b0 := by
  have hpair : b3 ++ b2 ++ b1 ++ b0 = (b3 ++ b2) ++ (b1 ++ b0) := BitVec.append_assoc'.symm
  rw [hpair, extract_low _ _ 0 16 (by decide), BitVec.extractLsb'_eq_self]

theorem extract_bytes_high : (b3 ++ b2 ++ b1 ++ b0).extractLsb' 16 16 = b3 ++ b2 := by
  simp (disch := decide) only [extract_high, Nat.reduceSub, BitVec.extractLsb'_eq_self]

/-- Reading four bytes is reading the word that they make up (30_encoding R160, 20_memory R134). -/
theorem decodeBytes_four : (decodeBytes [b0, b1, b2, b3]).map Prod.fst = decode (b3 ++ b2 ++ b1 ++ b0) := by
  have hmap : ∀ (d : Decoded) (rest : List Byte), (d.map (·, rest)).map Prod.fst = d := fun d _ => by cases d <;> rfl
  have hlen : (b3 ++ b2 ++ b1 ++ b0).extractLsb' 0 2 = b0.extractLsb' 0 2 := extract_low _ b0 0 2 (by decide)
  unfold decode
  rw [hlen]
  by_cases h : b0.extractLsb' 0 2 = 3#2
  · rw [if_pos h, ← hmap (decode32 _) []]
    exact congrArg (Except.map Prod.fst) (if_pos h)
  · rw [if_neg h, extract_bytes_low, ← hmap (decode16 _) [b2, b3]]
    exact congrArg (Except.map Prod.fst) (if_neg h)

end

end Sys2Proof

namespace Sys2Proof.Machine

/-! ### Time (R870, R872) -/

theorem manyEvents_of_one {sel : BitVec 16} (h : sel &&& (sel - 1) = 0) : manyEvents sel = false := by
  unfold manyEvents
  rw [h]
  rfl

theorem timingEvent_of_quiet {sel : BitVec 16} (h : sel &&& 0xF81D = 0) : timingEvent sel = false := by
  unfold timingEvent
  rw [h]
  rfl

theorem tickCounter_of_timeKeepsCounter {s : State} {i : Fin 29} (h : TimeKeepsCounter s i) (c : BitVec 64) :
    tickCounter s i c = c := by
  have hsel : s.hpmEvent.toArray.getD i.val 0 = s.hpmEvent[i] := by simp [Array.getD]
  obtain hi | ⟨hone, hstill⟩ := h
  · exact tickCounter_unimplemented hi
  · have htimed : (timingEvent s.hpmEvent[i] && !s.inhibited (i.val + 3)) = false := by
      rcases hstill with hquiet | hinh
      · rw [timingEvent_of_quiet hquiet]; rfl
      · rw [State.inhibited, hinh, Bool.not_true, Bool.and_false]
    unfold tickCounter
    dsimp only
    rw [hsel, manyEvents_of_one hone, htimed]
    exact ite_self _

theorem timePassed_beginStep (s : State) : TimePassed s s.beginStep where
  others := rfl
  mcycle h := if_pos h
  hpm _ h := (Vector.getElem_mapIdx ..).trans (tickCounter_of_timeKeepsCounter h _)

/-! ### The end of a single step (R855) -/

section
variable {s t : State}

theorem State.afterStep_of_armed (hs : s.stepPhase = .armed) (hd : t.debugMode = false) (hw : t.elwWaiting = none) :
    s.afterStep t = { t with stepPhase := .due } := by
  unfold State.afterStep
  rw [hs, hd, hw]
  rfl

theorem State.afterStep_of_not_armed (h : s.stepPhase ≠ .armed ∨ t.debugMode = true ∨ t.elwWaiting ≠ none) :
    s.afterStep t = t := by
  unfold State.afterStep
  refine if_neg fun hc => ?_
  simp only [Bool.and_eq_true, beq_iff_eq, Bool.not_eq_true', Option.isNone_iff_eq_none] at hc
  obtain ⟨⟨hs, hd⟩, hw⟩ := hc
  rcases h with h | h | h
  · exact h hs
  · exact absurd (hd.symm.trans h) (by decide)
  · exact h hw

end

/-- Settles O8: the two clauses are the branches of the end of a step. -/
theorem singleStepBecomesDue : Obligations.SingleStepBecomesDue := fun _ _ =>
  ⟨State.afterStep_of_armed, State.afterStep_of_not_armed⟩

/-! ### The bytes that a fetch gives (20_memory R139) -/

section
variable {a : Word}

theorem getLsbD_wordAddr {i : Nat} (hi : i < 32) : (wordAddr a).getLsbD i = (a.getLsbD i && decide (2 ≤ i)) := by
  have hmask : ∀ i < 32, (0xFFFFFFFC : Word).getLsbD i = decide (2 ≤ i) := by decide
  rw [wordAddr, BitVec.getLsbD_and, hmask i hi]

theorem wordAddr_of_aligned (h0 : a.getLsbD 0 = false) (h1 : a.getLsbD 1 = false) : wordAddr a = a := by
  apply BitVec.eq_of_getLsbD_eq
  intro i hi
  rw [getLsbD_wordAddr hi]
  match i with
  | 0 => rw [h0]; rfl
  | 1 => rw [h1]; rfl
  | i + 2 => simp

/-- The upper halfword of a word. -/
theorem wordAddr_add_two (h0 : a.getLsbD 0 = false) (h1 : a.getLsbD 1 = true) : wordAddr a + 2 = a := by
  have hdisjoint : wordAddr a &&& 2 = 0 := by rw [wordAddr, BitVec.and_assoc]; exact BitVec.and_zero
  have htwo : ∀ i < 32, (2 : Word).getLsbD i = decide (i = 1) := by decide
  rw [BitVec.add_eq_or_of_and_eq_zero _ _ hdisjoint]
  apply BitVec.eq_of_getLsbD_eq
  intro i hi
  rw [BitVec.getLsbD_or, getLsbD_wordAddr hi, htwo i hi]
  match i with
  | 0 => rw [h0]; rfl
  | 1 => rw [h1]; rfl
  | i + 2 => simp

end

/-- With nothing older kept, a fetch from a halfword address gives the four bytes from there on, over one or two words. -/
theorem State.fetch_of_fresh {s : State} (h : s.stale = []) (hpc : s.pc.getLsbD 0 = false) :
    s.fetch = s.codeByte (s.pc + 3) ++ s.codeByte (s.pc + 2) ++ s.codeByte (s.pc + 1) ++ s.codeByte s.pc := by
  unfold State.fetch
  dsimp only
  rw [State.fetchWord_of_fresh h, State.fetchWord_of_fresh h]
  cases hb : s.pc.getLsbD 1
  · rw [wordAddr_of_aligned hpc hb]
    rfl
  · have hword : ∀ k : Word, wordAddr s.pc + (2 + k) = s.pc + k := fun k => by
      rw [← BitVec.add_assoc, wordAddr_add_two hpc hb]
    have hlow : (s.codeWord (wordAddr s.pc)).extractLsb' 16 16 = s.codeByte (s.pc + 1) ++ s.codeByte s.pc := by
      rw [State.codeWord, extract_bytes_high, wordAddr_add_two hpc hb, ← hword 1]
      rfl
    have hhigh : (s.codeWord (wordAddr s.pc + 4)).extractLsb' 0 16 = s.codeByte (s.pc + 3) ++ s.codeByte (s.pc + 2) := by
      rw [State.codeWord, extract_bytes_low, BitVec.add_assoc, ← hword 3, ← hword 2]
      rfl
    rw [if_pos rfl, hlow, hhigh]
    exact BitVec.append_assoc'

/-- What the decoder says of the instruction at the pc is what it says of the four bytes there. -/
theorem State.decode_fetch_of_fresh {s : State} (h : s.stale = []) (hpc : s.pc.getLsbD 0 = false) :
    decode s.fetch =
      (decodeBytes [s.codeByte s.pc, s.codeByte (s.pc + 1), s.codeByte (s.pc + 2), s.codeByte (s.pc + 3)]).map Prod.fst := by
  rw [State.fetch_of_fresh h hpc, decodeBytes_four]

/-! ### Running the instruction -/

section
variable {s : State}

/-- A step that no event and no waiting `cv.elw` takes does what the decoder says. -/
theorem step_of_decoded {d : Decoded} (hr : Runs s) (hw : s.elwWaiting = none) (hb : s.beginStep.boundary = none)
    (hd : decode s.beginStep.fetch = d) : step s = runDecoded d s.beginStep := by
  rw [step_of_runs hr, State.awakeStep_of_none fun _ => hb, hw, ← hd]
  rfl

theorem runInstr_of_refused {i : Instr} {r : Refusal} (h : exec i s = .refused r) : runInstr i s = .refused r := by
  unfold runInstr
  rw [h]

end

/-- Settles O7: the bytes at the pc are the word that the step decodes, and it runs what it decodes. -/
theorem stepRunsDecodedInstruction : Obligations.StepRunsDecodedInstruction := by
  intro s i rest hr hw hb hfresh hpc _ b
  refine ⟨fun _ => State.codeByte_of_hasCode (s := b), fun hbytes => ?_⟩
  have hdecode : decode b.fetch = .ok i :=
    (State.decode_fetch_of_fresh (s := b) hfresh hpc).trans (congrArg (Except.map Prod.fst) hbytes)
  have hstep : step s = runInstr i b := step_of_decoded hr hw hb hdecode
  refine ⟨timePassed_beginStep s, fun t ht hv => ?_, fun t ht hv => ?_, fun r hx => hstep.trans (runInstr_of_refused hx)⟩
  · rw [hstep, runInstr_of_next ht, hv]
    rfl
  · rw [hstep, runInstr_of_next ht, hv]
    rfl

/-! ### A word that is no instruction (R822, R853) -/

section
variable {s : State} {code : Word}

theorem State.raise_of_debug (h : s.debugMode = true) :
    s.raise code = { s with pc := s.cfg.dmExceptionAddr, stale := [] } := if_pos h

theorem State.trapTaken_raise (h : s.debugMode = false) :
    TrapTaken s (s.raise code) s.pc code (s.mtvec &&& 0xFFFFFF00) := by
  have hraise : s.raise code = s.enterTrap s.pc code (trapBase s.mtvec) := if_neg (by simp [h])
  rw [hraise]
  exact trapTaken_enterTrap s ..

end

/-- Settles O9: such a word raises exception 2, and the single step in progress ends with it. -/
theorem undecodableWordTraps : Obligations.UndecodableWordTraps := by
  intro s e hr hw hb hfresh hpc b trapped byte violates hbytes
  have hfetch : b.fetch = byte 3 ++ byte 2 ++ byte 1 ++ byte 0 := by
    have hzero : b.codeByte b.pc = byte 0 := congrArg b.codeByte (BitVec.add_zero s.pc).symm
    rw [State.fetch_of_fresh (s := b) hfresh hpc, hzero]
    rfl
  have hdecode : decode b.fetch = .error e := by
    rw [hfetch, ← decodeBytes_four, hbytes]
    rfl
  have hstep : step s = if violates then .refused .hwLoopViolation else .next (b.afterStep (b.raise 2)) := by
    rw [step_of_decoded hr hw hb hdecode]
    show runUndecodable b = _
    rw [runUndecodable, hfetch]
  refine ⟨fun hv => ?_, fun hv => by rw [hstep, hv]; rfl⟩
  have hnext : step s = .next (b.afterStep (b.raise 2)) := by rw [hstep, hv]; rfl
  refine ⟨fun hd hp => ⟨_, hnext.trans (congrArg _ ?_), State.trapTaken_raise (s := b) hd⟩,
    fun hd hp => ⟨_, hnext.trans (congrArg _ ?_), State.trapTaken_raise (s := b) hd⟩, fun hd => hnext.trans (congrArg _ ?_)⟩
  · have hidle : b.stepPhase ≠ .armed := fun harmed => StepPhase.noConfusion (hp.symm.trans harmed)
    exact State.afterStep_of_not_armed (.inl hidle)
  · exact State.afterStep_of_armed (s := b) hp ((State.raise_debugMode b 2).trans hd) (State.raise_elwWaiting b 2)
  · have hdebug : (b.raise 2).debugMode = true := (State.raise_debugMode b 2).trans hd
    exact (State.afterStep_of_not_armed (.inr (.inl hdebug))).trans (State.raise_of_debug (s := b) hd)

/-! ### What the model refuses (93 U14, U25) -/

/-- With the clock off a step changes nothing asleep and is refused awake. -/
theorem State.runningStep_of_gated {s : State} (hc : s.cfg.corevCluster = true) (hp : s.pulpClockEn = false) :
    s.runningStep = if s.sleeping then .next s else .refused .clockGatedAwake := by
  unfold State.runningStep
  rw [hc, hp]
  rfl

theorem step_of_illegal {s : State} (h : s.cfg.legal = false) : step s = .refused .illegalConfiguration := by
  unfold step
  rw [h]
  rfl

/-- Settles O18: the refusals stand before everything else that a step does. -/
theorem brokenIntegrationIsRefused : Obligations.BrokenIntegrationIsRefused := fun s =>
  ⟨step_of_illegal, fun hl hf hc hp hs => by rw [step_of_enabled hl hf, State.runningStep_of_gated hc hp, hs]; rfl,
    fun hl hf hc hp hs => by rw [step_of_enabled hl hf, State.runningStep_of_gated hc hp, hs]; rfl⟩

end Sys2Proof.Machine
end
